-- ==== Sys2Proof/Word.lean ====
section
/-! DEFINITION. The octet: the unit of every port frame, line frame and record layout of the HC7 (R110, R200). -/

namespace Sys2Proof

/-- An octet of a port frame or a line frame. -/
abbrev Byte := BitVec 8

end Sys2Proof
end

