-- ==== Sys2Proof/Syntax.lean ====
section
/-! DEFINITION. The commands of the HC7: one constructor for each row of spec/opcode_table.json. -/

namespace Sys2Proof

/-- The two serial ports (R186). -/
inductive Port
  | vending
  | signage
  deriving DecidableEq, Repr

/-- A signalling element of the branch line (R108). -/
inductive Symbol
  | mark
  | space
  deriving DecidableEq, Repr

/-- The ways a downward frame is discarded as bad (R111): a check that does not match, six marks inside the
frame, a length octet above 40. -/
inductive BadCause
  | check
  | aborted
  | length
  deriving DecidableEq, Repr

/-- What the pins show as a full reset ends, and how long it lasted (R51, R65, R120, R167, R186). -/
structure ResetPins where
  /-- Crystal ticks for which RESETn was low or main power was absent (R65). -/
  heldTicks : Nat
  /-- The strap pins ADDR3..0 (R120). -/
  straps : BitVec 4
  /-- OCC is asserted (R167). -/
  occ : Bool
  /-- VSEL is low, SSEL is low (R186). -/
  vselLow : Bool
  sselLow : Bool
  deriving DecidableEq, Repr

/-- What a request transaction brought after its command code: the whole octets in order, and whether a part of an
octet followed the last of them (R187). -/
structure Request where
  octets : List Byte
  partialOctet : Bool
  deriving DecidableEq, Repr

/-- A command. A port command carries its port; a downward message carries the address octet and the payload octets
of its valid frame (R110); a deadline or a STOP_ACK timer names its call by service number. -/
inductive Instr
  /-- FULL_RESET (R64). -/
  | fullReset (pins : ResetPins)
  /-- VBAK_LOW (R64). -/
  | vbakLow
  /-- VENDING_PORT_HOLD (R196): VRSTn goes low; `selLow` is the level of VSEL. -/
  | vendingPortHold (selLow : Bool)
  /-- VENDING_PORT_RESET (R196): VRSTn returns high. -/
  | vendingPortReset (selLow : Bool)
  /-- SIGNAGE_PORT_HOLD (R197). -/
  | signagePortHold (selLow : Bool)
  /-- SIGNAGE_PORT_RESET (R197). -/
  | signagePortReset (selLow : Bool)
  /-- STRAP_READ (R120). -/
  | strapRead (straps : BitVec 4)
  /-- OCC_ASSERTED (R153). -/
  | occAsserted
  /-- OCC_RELEASED (R155). -/
  | occReleased
  /-- BUTTON_PRESS (R164). -/
  | buttonPress
  /-- AMB_PULSE (R180). -/
  | ambPulse
  /-- CRYSTAL_TICK (R51). -/
  | crystalTick
  /-- TIME (R63). -/
  | time (port : Port) (req : Request)
  /-- CALLS (R91). -/
  | calls (port : Port) (req : Request)
  /-- QUOTE (R84). -/
  | quote (port : Port) (req : Request)
  /-- COMMIT (R86). -/
  | commit (port : Port) (req : Request)
  /-- RELEASE_REQUEST (R87): the RELEASE request of the vending port. -/
  | releaseRequest (port : Port) (req : Request)
  /-- SALES_STATE (R92). -/
  | salesState (port : Port) (req : Request)
  /-- NOTICES (R195). -/
  | notices (port : Port) (req : Request)
  /-- BOARD (R50). -/
  | board (port : Port) (req : Request)
  /-- CONDITION (R147). -/
  | condition (port : Port) (req : Request)
  /-- SCREEN (R177). -/
  | screen (port : Port) (req : Request)
  /-- READY (R171). -/
  | ready (port : Port) (req : Request)
  /-- QUIET (R178). -/
  | quiet (port : Port) (req : Request)
  /-- COLLECTION (R189): `clocked` whole octets were clocked, the collection code's among them. -/
  | collection (port : Port) (clocked : Nat)
  /-- UNKNOWN_COMMAND (R190): `req.octets` begin with the command code. -/
  | unknownCommand (port : Port) (req : Request)
  /-- DOWNWARD_FRAME_START (R111). -/
  | downwardFrameStart
  /-- BAD_FRAME (R111). -/
  | badFrame (cause : BadCause)
  /-- FRAME_DISCARDED (R127): a valid frame of any kind octet. -/
  | frameDiscarded (addr kind : Byte) (payload : List Byte)
  /-- BEACON (R53). -/
  | beacon (addr : Byte) (payload : List Byte)
  /-- DELAY (R26). -/
  | delay (addr : Byte) (payload : List Byte)
  /-- CANCEL (R14). -/
  | cancel (addr : Byte) (payload : List Byte)
  /-- REINSTATE (R15). -/
  | reinstate (addr : Byte) (payload : List Byte)
  /-- RESTART (R126). -/
  | restart (addr : Byte) (payload : List Byte)
  /-- ADMIT (R123). -/
  | admission (addr : Byte) (payload : List Byte)
  /-- STOP_ACK (R21). -/
  | stopAck (addr : Byte) (payload : List Byte)
  /-- SALE_ACK (R141). -/
  | saleAck (addr : Byte) (payload : List Byte)
  /-- SERIAL_GRANT (R95). -/
  | serialGrant (addr : Byte) (payload : List Byte)
  /-- HOLD (R100). -/
  | hold (addr : Byte) (payload : List Byte)
  /-- RELEASE_MESSAGE (R101): the RELEASE message of the control point. -/
  | releaseMessage (addr : Byte) (payload : List Byte)
  /-- LOAD_CALL (R7). -/
  | loadCall (addr : Byte) (payload : List Byte)
  /-- LOAD_CLEAR (R11). -/
  | loadClear (addr : Byte) (payload : List Byte)
  /-- LOAD_END (R12). -/
  | loadEnd (addr : Byte) (payload : List Byte)
  /-- LOAD_FARE_DEST (R73). -/
  | loadFareDest (addr : Byte) (payload : List Byte)
  /-- LOAD_FARE_PRICE (R74). -/
  | loadFarePrice (addr : Byte) (payload : List Byte)
  /-- LOAD_CONCESSION (R75). -/
  | loadConcession (addr : Byte) (payload : List Byte)
  /-- LOAD_PARAMS (R145). -/
  | loadParams (addr : Byte) (payload : List Byte)
  /-- SET_TIME (R62). -/
  | setTime (addr : Byte) (payload : List Byte)
  /-- UPWARD_FRAME_START (R114). -/
  | upwardFrameStart
  /-- FRAME_COMPLETE (R118). -/
  | frameComplete
  /-- CONTENTION_LOSS (R116). -/
  | contentionLoss
  /-- LINE_FAULT (R117). -/
  | lineFault
  /-- THRESHOLD_RETURN (R113). -/
  | thresholdReturn
  /-- QUOTE_LAPSE (R88). -/
  | quoteLapse
  /-- HOLD_EXPIRY (R103). -/
  | holdExpiry
  /-- SERIAL_ASK_REPEAT (R96). -/
  | serialAskRepeat
  /-- HOLDOVER_EXPIRY (R58). -/
  | holdoverExpiry
  /-- STOP_ACK_TIMEOUT (R21), of the named call. -/
  | stopAckTimeout (service : Nat)
  /-- ACK_TIMER_EXPIRY (R140). -/
  | ackTimerExpiry
  /-- JOIN_TIMER_EXPIRY (R122). -/
  | joinTimerExpiry
  /-- ADMISSION_TIMEOUT (R122). -/
  | admissionTimeout
  /-- SILENCE_TIMEOUT (R124). -/
  | silenceTimeout
  /-- LOST_TIMEOUT (R125). -/
  | lostTimeout
  /-- STATUS_PERIOD (R148). -/
  | statusPeriod
  /-- QUOTE_DEMAND_EXPIRY (R176). -/
  | quoteDemandExpiry
  /-- BUTTON_DEMAND_EXPIRY (R176). -/
  | buttonDemandExpiry
  /-- SETTLE_EXPIRY (R154). -/
  | settleExpiry
  /-- STOP_THRESHOLD_EXPIRY (R156). -/
  | stopThresholdExpiry
  /-- RELEASE_TIMER_EXPIRY (R155). -/
  | releaseTimerExpiry
  /-- STANDING_EXPIRY (R161). -/
  | standingExpiry
  /-- READY_TIMEOUT (R174). -/
  | readyTimeout
  /-- SETTLING_EXPIRY (R172). -/
  | settlingExpiry
  /-- IDLE_DELAY_EXPIRY (R173). -/
  | idleDelayExpiry
  /-- FAULT_RETRY_EXPIRY (R174). -/
  | faultRetryExpiry
  /-- AMBIENT_WINDOW_END (R181). -/
  | ambientWindowEnd
  /-- DUE_POINT_REACHED (R35), of the named call. -/
  | duePointReached (service : Nat)
  /-- LAPSE_POINT_REACHED (R36). -/
  | lapsePointReached (service : Nat)
  /-- HORIZON_ENTRY_REACHED (R42). -/
  | horizonEntryReached (service : Nat)
  /-- DISPLAY_END_REACHED (R42). -/
  | displayEndReached (service : Nat)
  /-- STALENESS_POINT_REACHED (R39). -/
  | stalenessPointReached (service : Nat)
  /-- WAKE_ENTRY_REACHED (R176), of the row of the named call. -/
  | wakeEntryReached (service : Nat)
  /-- ROLLOVER (R59). -/
  | rollover
  /-- SYMBOL_PERIOD_END (R112): the symbol of the message stream and the echo symbol of the period. -/
  | symbolPeriodEnd (message echo : Symbol)
  /-- SEL_RISES_IN_DISCARD (R187). -/
  | selRisesInDiscard (port : Port)
  deriving DecidableEq, Repr

end Sys2Proof
end

