-- ==== Sys2Proof/Config.lean ====
section
/-! DEFINITION. The numbers the manual fixes: durations in crystal ticks of 1/16 s (R51, R61), capacities and
thresholds; and the one free value, the level of SSEL where no event reports it. -/

namespace Sys2Proof.Config

/-- SSEL is low as SIGPWR turns on, by the number of times it has turned on before (R197). A free value: no row of the table
reports a fall of SEL, so nothing says which it is (log 15). -/
opaque sselLow : Nat → Bool

/-- `n` seconds of crystal time, in crystal ticks of 1/16 s (R51). -/
def seconds (n : Nat) : Nat := 16 * n

/-- Seconds of a service day (R51). -/
def daySeconds : Nat := 86400

/-- The last second of a service day (R51). -/
def lastSecond : Nat := 86399

/-- Ticks of a service day (R51, R53). -/
def dayTicks : Nat := 1382400

/-- Records one bank holds (R5). -/
def bankSize : Nat := 96

/-- Fare destinations (R67). -/
def fareDestinations : Nat := 48

/-- Journal records (R97). -/
def journalSize : Nat := 400

/-- The journal count whose reaching latches JOURNAL_NEAR_FULL (R99). -/
def nearFull : Nat := 352

/-- The value at which the journal sequence counter is exhausted (R98). -/
def sequenceTop : Nat := 4294967295

/-- The highest ticket serial (R93). -/
def serialTop : Nat := 16777215

/-- Blocks of the serial block list (R93). -/
def serialBlocks : Nat := 4

/-- Serials one grant may carry (R95). -/
def grantTop : Nat := 2000

/-- The serials remaining below which SERIAL_ASK is offered (R96). -/
def lowWater : Nat := 50

/-- Items of the urgent queue (R131). -/
def urgentSize : Nat := 16

/-- Items of the routine queue (R131). -/
def routineSize : Nat := 32

/-- The top of the 16-bit saturating counts (R128, R150, R180). -/
def countTop : Nat := 65535

/-- Rows of the board (R41). -/
def boardRows : Nat := 6

/-- Entries of a CALLS response (R91). -/
def callsEntries : Nat := 8

/-- Quote lifetime, 180 s (R84). -/
def quoteLifetime : Nat := 180

/-- Table hold limit (R100). -/
def holdLimit : Nat := seconds 600

/-- SERIAL_ASK repeat (R96). -/
def askRepeat : Nat := seconds 300

/-- Holdover timer (R58). -/
def holdover : Nat := seconds 600

/-- Acknowledgement timer of a stop request (R21). -/
def stopAck : Nat := seconds 20

/-- Acknowledgement timer of the journal drain (R138). -/
def saleAck : Nat := seconds 120

/-- Interval between JOIN frames (R122). -/
def joinInterval : Nat := seconds 5

/-- Admission timer (R122). -/
def admission : Nat := seconds 60

/-- Silence timer (R124). -/
def silence : Nat := seconds 30

/-- LOST timer (R124). -/
def lost : Nat := seconds 120

/-- STATUS period (R148). -/
def statusPeriod : Nat := seconds 300

/-- Button demand and quote demand (R84, R164). -/
def demandTime : Nat := seconds 120

/-- Both filters of the track circuit (R152). -/
def occFilter : Nat := seconds 2

/-- Standing timer (R153). -/
def standing : Nat := seconds 600

/-- Time between accepted button presses (R164). -/
def pressGap : Nat := seconds 1

/-- Request window of the stop button, in seconds of the time of day (R165). -/
def requestWindow : Nat := 3600

/-- READY timer (R170). -/
def readyTime : Nat := seconds 10

/-- Fault retry timer (R174). -/
def faultRetry : Nat := seconds 60

/-- Ambient window (R180). -/
def ambientWindow : Nat := seconds 1

/-- Settling time of LAMP_SETTLING, in milliseconds (R170). -/
def lampSettling : Nat := 100

/-- Settling time of BIAS_SETTLING, in milliseconds (R172). -/
def biasSettling : Nat := 50

/-- Base and raised access thresholds of the urgent class (R113). -/
def urgentBase : Nat := 6
def urgentRaised : Nat := 8

/-- Base and raised access thresholds of the routine class (R113). -/
def routineBase : Nat := 11
def routineRaised : Nat := 13

end Sys2Proof.Config
end

