-- ==== Sys2Proof/Machine/Octets.lean ====
section
/-! DEFINITION. Plain helpers: clamping and saturation (00, Refused, clamped, saturating), sorting, and the octet fields
of a payload (R200). -/

namespace Sys2Proof.Machine

/-- Clamped: an out-of-range value is replaced by the nearest end of its range. -/
def clamp (lo hi n : Nat) : Nat := max lo (min n hi)

/-- Clamped, for a signed value. -/
def clampInt (lo hi n : Int) : Int := max lo (min n hi)

/-- Saturating: one more, stopping at the top of the range. -/
def satSucc (top n : Nat) : Nat := min (n + 1) top

/-- Insertion into a list sorted by `le`, before the first entry that is not below it. -/
def insertBy {α : Type} (le : α → α → Bool) (a : α) : List α → List α
  | [] => [a]
  | b :: bs => if le a b then a :: b :: bs else b :: insertBy le a bs

/-- The list sorted by `le`. -/
def sortBy {α : Type} (le : α → α → Bool) : List α → List α
  | [] => []
  | a :: as => insertBy le a (sortBy le as)

/-- The list with the duplicates of earlier entries dropped, first appearances keeping their order. -/
def firstOnly : List Nat → List Nat
  | [] => []
  | a :: as => a :: (firstOnly as).filter (· ≠ a)

/-- The number some octets carry, most significant octet first (R200). -/
def beNat (bs : List Byte) : Nat := bs.foldl (fun n b => 256 * n + b.toNat) 0

/-- A number in `w` octets, most significant octet first (R200). -/
def beBytes : Nat → Nat → List Byte
  | 0, _ => []
  | w + 1, n => BitVec.ofNat 8 (n / 256 ^ w) :: beBytes w n

/-- The number in the field of width `w` at offset `off` of a payload. -/
def field (p : List Byte) (off w : Nat) : Nat := beNat ((p.drop off).take w)

/-- The value of an optional field, absent when it holds all ones in its width (R200). -/
def optField (p : List Byte) (off w : Nat) : Option Nat :=
  let n := field p off w
  if n = 256 ^ w - 1 then none else some n

/-- An optional field of width `w` as octets (R200). -/
def optBytes (w : Nat) : Option Nat → List Byte
  | none => List.replicate w 0xFF#8
  | some n => beBytes w n

/-- A list of 0 or 1 entries of width `w` (R200). -/
def listOfOne (w : Nat) : Option Nat → List Byte
  | none => [0#8]
  | some n => 1#8 :: beBytes w n

/-- The signed number of a field of 2 octets (R200). -/
def signed16 (n : Nat) : Int := if n < 32768 then n else (n : Int) - 65536

/-- A flag as an octet: 00H clear, 01H set. -/
def flagByte (b : Bool) : Byte := if b then 1#8 else 0#8

/-- The numbers of `n` fields of width `w` that follow one another from offset `off`. -/
def fields (p : List Byte) (w : Nat) : Nat → Nat → List Nat
  | _, 0 => []
  | off, n + 1 => field p off w :: fields p w (off + w) n

end Sys2Proof.Machine
end

