-- ==== Sys2Proof/Machine/State.lean ====
section
/-! DEFINITION. The state of the HC7, block by block (the functional overview of 00_scope), and its value right after a
full reset. Quantities are `Nat` or `Int` within the ranges the rules give; counts that wrap are bit vectors. -/

namespace Sys2Proof.Machine

/-- No command of the HC7 stops it with a fault: what the manual calls a line fault (R117) or the screen state FAULT
(R174) is state, and the part goes on. So nothing raises a fault, which is safe. -/
inductive Fault
  deriving DecidableEq, Repr

/-- Why a command has no next state. -/
inductive Refusal
  /-- `exec` itself, for a command that has no meaning yet; safe, since nothing is then claimed of the command. -/
  | notModelled (mnemonic : String)
  deriving DecidableEq, Repr

/-- A crystal-timed duration (R61): stopped, or running with the crystal ticks still to run. A running timer that
stands at 0 has run out, and its expiry is the next thing it does. -/
abbrev Timer := Option Nat

/-! ## Time of day (chapter 03) -/

/-- The time of day: seconds 0..86,399 and the tick fraction 0..15 (R51). -/
structure TimeOfDay where
  sec : Nat
  tick : Nat
  deriving DecidableEq, Repr

/-- R52. -/
inductive TimeState
  | unset
  | locked
  | holdover
  deriving DecidableEq, Repr

/-- The kind of the last full reset (R64, R122). -/
inductive StartKind
  | warm
  | cold
  deriving DecidableEq, Repr

/-- What the time base records at the first symbol of a downward frame (R53), and whether a forward step or a SET_TIME
has fallen since. -/
structure FrameStart where
  localTime : TimeOfDay
  crystal : Nat
  disturbed : Bool
  deriving DecidableEq, Repr

/-- The time base (R51 to R66). -/
structure Clock where
  time : TimeOfDay
  day : BitVec 16
  setMarker : Bool
  owed : Bool
  timeState : TimeState
  slew : Nat
  slewHalf : Bool
  disputes : Nat
  holdover : Timer
  crystal : Nat
  frameStart : Option FrameStart
  loss : Bool
  startKind : StartKind
  deriving DecidableEq, Repr

/-! ## Call table (chapter 01) -/

inductive CallKind
  | stops
  | request
  deriving DecidableEq, Repr

inductive CallState
  | scheduled
  | due
  | cancelled
  | arrived
  | departed
  | lapsed
  deriving DecidableEq, Repr

/-- R18. -/
inductive StopState
  | none
  | wanted
  | sent
  | confirmed
  | late
  deriving DecidableEq, Repr

inductive Origin
  | ticket
  | button
  deriving DecidableEq, Repr

/-- A stored delay notice: delay D, point code, report time (R4, R26). -/
structure DelayNotice where
  delay : Int
  point : Nat
  report : Nat
  deriving DecidableEq, Repr

/-- The scheduled fields of a call record (R1). -/
structure Scheduled where
  service : Nat
  dest : Nat
  kind : CallKind
  sa : Option Nat
  sd : Option Nat
  md : Nat
  served : List Nat
  points : List (Nat × Nat)
  deriving DecidableEq, Repr

/-- The live fields of a call record (R4). -/
structure Live where
  state : CallState
  notice : Option DelayNotice
  ea : Option Nat
  ed : Option Nat
  aa : Option Nat
  ad : Option Nat
  passed : Bool
  beyond : Bool
  sold : Nat
  stop : StopState
  origin : Option Origin
  wantedAt : Option Nat
  ackTimer : Timer
  deriving DecidableEq, Repr

/-- A call record (R1, R4). -/
structure Call extends Scheduled, Live
  deriving DecidableEq, Repr

/-- The state of the NEXT bank (R6). -/
inductive BankState
  | empty
  | loading
  | complete
  deriving DecidableEq, Repr

/-- The call table (R5). A bank is the list of its records in rising order of service number. -/
structure CallTable where
  active : List Call
  next : List Call
  nextState : BankState
  deriving DecidableEq, Repr

/-! ## Departure board (chapter 02) -/

/-- The branch condition (R146). -/
inductive BranchCondition
  | normal
  | disrupted
  | suspended
  | closed
  deriving DecidableEq, Repr

inductive RowStatus
  | cancelled
  | atPlatform
  | due
  | late
  | onTime
  deriving DecidableEq, Repr

/-- The flags of a row (R47). -/
structure RowFlags where
  requestStop : Bool
  stopConfirmed : Bool
  stopPending : Bool
  handSignal : Bool
  unconfirmed : Bool
  terminates : Bool
  beyondDay : Bool
  deriving DecidableEq, Repr

/-- A row of the board (R45). -/
structure Row where
  service : Nat
  dest : Nat
  schedMinute : Nat
  expMinute : Nat
  status : RowStatus
  lateMinutes : Nat
  flags : RowFlags
  deriving DecidableEq, Repr

/-- The departure board: banner (R44) and rows (R41). -/
structure Board where
  condition : BranchCondition
  textCode : Nat
  notSet : Bool
  rows : List Row
  deriving DecidableEq, Repr

/-- What the board builder owns (R40). -/
structure BoardBuilder where
  board : Board
  revision : BitVec 16
  deriving DecidableEq, Repr

/-! ## Fare unit (chapter 04) -/

/-- The price block (R68). -/
structure PriceBlock where
  zones : List Nat
  ret : Nat
  off : Nat
  peakStart : Nat
  peakEnd : Nat
  deriving DecidableEq, Repr

/-- A defined concession slot (R70). -/
structure Concession where
  discount : Nat
  minimum : Nat
  deriving DecidableEq, Repr

/-- The fare table: destinations with zone counts in rising order of code (R67), price block (R68), slots (R70). -/
structure FareTable where
  dests : List (Nat × Nat)
  block : PriceBlock
  slots : List (Option Concession)
  deriving DecidableEq, Repr

inductive TicketKind
  | single
  | ret
  | dayReturn
  deriving DecidableEq, Repr

/-! ## Issue unit (chapter 05) -/

inductive SaleState
  | quoted
  | void
  deriving DecidableEq, Repr

/-- The pending sale (R81); its lapse timer runs as long as it exists. -/
structure Sale where
  state : SaleState
  call : Option Nat
  dest : Nat
  kind : TicketKind
  concession : Nat
  fare : Nat
  quoteTime : Nat
  lapse : Nat
  deriving DecidableEq, Repr

/-- R100. -/
inductive Hold
  | free
  | asked
  | held
  deriving DecidableEq, Repr

/-- A serial block (R93). -/
structure Block where
  first : Nat
  next : Nat
  count : Nat
  deriving DecidableEq, Repr

/-- A ticket record of the journal (R97). -/
structure Ticket where
  sequence : Nat
  serial : Nat
  day : BitVec 16
  issueTime : Nat
  service : Option Nat
  dest : Nat
  kind : TicketKind
  concession : Nat
  fare : Nat
  payment : Nat
  deriving DecidableEq, Repr

/-- The issue unit. -/
structure Issue where
  sale : Option Sale
  hold : Hold
  limitTimer : Timer
  blocks : List Block
  journal : List Ticket
  sequence : Nat
  askTimer : Timer
  quoteDemand : Timer
  deriving DecidableEq, Repr

/-! ## Line interface (chapters 06 and 07) -/

/-- R119. -/
inductive LinkState
  | dark
  | hunt
  | synced
  | admitted
  | lost
  deriving DecidableEq, Repr

/-- An access class (R113, R130). -/
inductive AccessClass
  | urgent
  | routine
  deriving DecidableEq, Repr

/-- The class map (R130). -/
structure ClassMap where
  status : AccessClass
  observation : AccessClass
  hold : AccessClass
  serialAsk : AccessClass
  loadReply : AccessClass
  deriving DecidableEq, Repr

/-- The routine turn marker (R115). -/
inductive Turn
  | queue
  | journal
  deriving DecidableEq, Repr

inductive ObservationKind
  | arrival
  | departure
  | pass
  | standing
  | unmatchedArrival
  | unmatchedDeparture
  deriving DecidableEq, Repr

inductive EndReason
  | released
  | expired
  deriving DecidableEq, Repr

/-- The load kinds of a LOAD_REPLY (R137). -/
inductive LoadKind
  | call
  | clear
  | ending
  | fareDest
  | farePrice
  | concession
  | params
  | time
  | serialGrant
  deriving DecidableEq, Repr

/-- The outcomes of a LOAD_REPLY (R137). -/
inductive LoadOutcome
  | accepted
  | notHeld
  | bankFull
  | tableFull
  | badRecord
  | countMismatch
  | listFull
  | overlap
  | reissue
  deriving DecidableEq, Repr

/-- An item of the outbound queues (R129). The fields of a STATUS are read when its frame starts. -/
inductive Item
  | stopRequest (service : Nat) (origin : Option Origin) (wantedAt : Option Nat)
  | observation (kind : ObservationKind) (service : Option Nat) (time : Option Nat)
  | holdGranted
  | holdEnded (reason : EndReason)
  | serialAsk (remaining : Nat)
  | loadReply (kind : LoadKind) (outcome : LoadOutcome) (reference : Option Nat)
  | status
  deriving DecidableEq, Repr

/-- The source of an upward frame (R114, R115). -/
inductive TxSource
  | join
  | urgentItem (item : Item)
  | routineItem (item : Item)
  | sale (sequence : Nat)
  deriving DecidableEq, Repr

/-- What the echo comparison has found so far (R116, R117). -/
inductive EchoResult
  | equal
  | contention
  | fault
  deriving DecidableEq, Repr

/-- The frame in progress (R114): its source, whether the item of a queue frame is still in its queue, the octets, the
symbols not yet sent and echoed equal, the echo comparison, whether a STATUS frame carries the table-reused flag set and
whether a re-arm was taken while it was on the line (R148). -/
structure TxFrame where
  source : TxSource
  queued : Bool
  octets : List Byte
  rest : List Symbol
  echo : EchoResult
  reused : Bool
  rearmed : Bool
  deriving DecidableEq, Repr

/-- What the downward receiver is doing (R111): waiting for a start, inside the period of a start symbol that has arrived
(log 36), inside a frame with the destuffed symbols so far (mark is `true`), holding a valid frame (address, kind, length,
payload octets) not yet taken, or holding the cause for which a frame was discarded. -/
inductive RxPhase
  | waiting
  | starting
  | receiving (bits : List Bool)
  | valid (octets : List Byte)
  | bad (cause : BadCause)
  deriving DecidableEq, Repr

/-- The downward receiver: the run of consecutive marks, held at 6, and the phase (R111). -/
structure Receiver where
  marks : Nat
  phase : RxPhase
  deriving DecidableEq, Repr

/-- The halt parameters (R144). -/
structure Params where
  salesMargin : Nat
  requestMargin : Nat
  dueWindow : Nat
  boardHorizon : Nat
  lateThreshold : Nat
  cancelledHold : Nat
  stalenessLimit : Nat
  stopThreshold : Nat
  attribution : Nat
  wakeWindow : Nat
  idleDelay : Nat
  thresholds : List Nat
  levels : List Nat
  deriving DecidableEq, Repr

/-- The line interface: access (chapter 06) and messages (chapter 07). `up` is the symbol that LINE_UP carries in the present
symbol period (R108). -/
structure Line where
  link : LinkState
  address : Nat
  idleCount : Nat
  urgentThreshold : Nat
  routineThreshold : Nat
  turn : Turn
  faultRun : Nat
  tx : Option TxFrame
  up : Symbol
  rx : Receiver
  resume : Bool
  joinPending : Bool
  joinTimer : Timer
  admissionTimer : Timer
  silenceTimer : Timer
  lostTimer : Timer
  badFrames : Nat
  contentions : Nat
  faults : Nat
  urgent : List Item
  routine : List Item
  classMap : ClassMap
  cursor : Option Nat
  highestSent : Nat
  saleAckTimer : Timer
  params : Params
  condition : BranchCondition
  textCode : Nat
  tableReused : Bool
  statusOwed : Bool
  statusTimer : Timer
  discards : Nat
  deriving DecidableEq, Repr

/-! ## Platform monitor (chapter 08) -/

/-- R152. -/
inductive Occupancy
  | blind
  | clear
  | settling
  | occupied
  | stopped
  deriving DecidableEq, Repr

/-- A recorded time of day, with the marker of whether the time was set (R153, R155). -/
structure Stamp where
  time : TimeOfDay
  isSet : Bool
  deriving DecidableEq, Repr

/-- The platform monitor. -/
structure Platform where
  occ : Bool
  state : Occupancy
  start : Option Stamp
  release : Option Stamp
  matched : Option Nat
  thresholdReached : Bool
  dayCrossed : Bool
  heldOver : Option Nat
  settleTimer : Timer
  stopTimer : Timer
  standingTimer : Timer
  releaseTimer : Timer
  lastPress : Option Nat
  buttonDemand : Timer
  deriving DecidableEq, Repr

/-! ## Screen sequencer (chapter 09) -/

/-- R169. -/
inductive Supply
  | dark
  | powering
  | lampSettling
  | biasSettling
  | lit
  | fault
  deriving DecidableEq, Repr

inductive ScreenMode
  | auto
  | on
  | off
  deriving DecidableEq, Repr

/-- The screen sequencer. `settling` holds the length in milliseconds of the settling stage under way (R172). -/
structure Screen where
  supply : Supply
  sigpwr : Bool
  lamp : Bool
  bias : Bool
  drive : Bool
  quiet : Bool
  readyTimer : Timer
  settling : Option Nat
  idleTimer : Timer
  retryTimer : Timer
  mode : ScreenMode
  trim : Int
  ambient : Nat
  window : Nat
  band : Nat
  candidate : Option (Nat × Nat)
  level : Nat
  deriving DecidableEq, Repr

/-! ## Ports (chapter 10) -/

/-- The framing state of a port (R186). -/
inductive Framing
  | idle
  | request
  | collection
  | discard
  deriving DecidableEq, Repr

/-- The status codes of a response, in the order of their codes (chapter 11). -/
inductive Status
  | ok
  | empty
  | badRequest
  | wrongPort
  | noTime
  | held
  | closed
  | unknownDest
  | unknownConcession
  | suspended
  | unknownCall
  | callGone
  | notServed
  | tooLate
  | peak
  | noSerial
  | journalFull
  | noQuote
  | screenLit
  | noticesPending
  deriving DecidableEq, Repr

/-- A response in a port's buffer (R186, R188). -/
structure Response where
  status : Status
  payload : List Byte
  deriving DecidableEq, Repr

/-- What a port holds (R186): `held` and `selLow` are its reset and select pins, `dout` is the model's record of the
octets the last collection transaction shifted out (R189). -/
structure PortState where
  held : Bool
  selLow : Bool
  framing : Framing
  octets : List Byte
  buffer : Option Response
  notices : BitVec 16
  mask : BitVec 16
  dout : List Byte
  deriving DecidableEq, Repr

/-! ## The whole part -/

/-- The state of the HC7, the number of times SIGPWR has turned on (the model's own, which `Config.sselLow` is read by;
log 15), and the commands that wait, first in first out. -/
structure State where
  calls : CallTable
  board : BoardBuilder
  clock : Clock
  fares : FareTable
  issue : Issue
  line : Line
  platform : Platform
  screen : Screen
  vport : PortState
  sport : PortState
  wakes : Nat
  pending : List Instr
  deriving DecidableEq, Repr

/-! ## Values at reset -/

/-- The defaults of the halt parameters (R144). -/
def Params.defaults : Params where
  salesMargin := 60
  requestMargin := 300
  dueWindow := 120
  boardHorizon := 120
  lateThreshold := 2
  cancelledHold := 15
  stalenessLimit := 1200
  stopThreshold := 12
  attribution := 1200
  wakeWindow := 20
  idleDelay := 120
  thresholds := [8, 32, 128, 512, 2048, 8192, 32768]
  levels := [6, 10, 16, 24, 32, 42, 52, 63]

/-- The default class map (R129, R130). -/
def ClassMap.defaults : ClassMap where
  status := .routine
  observation := .urgent
  hold := .urgent
  serialAsk := .routine
  loadReply := .routine

/-- The fare table after a cold start (R71). -/
def FareTable.defaults : FareTable where
  dests := []
  block := { zones := List.replicate 12 0, ret := 200, off := 0, peakStart := 0, peakEnd := 0 }
  slots := some { discount := 0, minimum := 0 } :: List.replicate 7 none

/-- A port after a port reset with SEL high (R186). -/
def PortState.reset : PortState where
  held := false
  selLow := false
  framing := .idle
  octets := []
  buffer := none
  notices := 0
  mask := 0
  dout := []

/-- The screen sequencer after a full reset (R185). -/
def Screen.reset : Screen where
  supply := .dark
  sigpwr := false
  lamp := false
  bias := false
  drive := false
  quiet := false
  readyTimer := none
  settling := none
  idleTimer := none
  retryTimer := none
  mode := .auto
  trim := 0
  ambient := 0
  window := Config.ambientWindow
  band := 0
  candidate := none
  level := 0

/-- The platform monitor after a full reset that ends with OCC released (R167). -/
def Platform.reset : Platform where
  occ := false
  state := .clear
  start := none
  release := none
  matched := none
  thresholdReached := false
  dayCrossed := false
  heldOver := none
  settleTimer := none
  stopTimer := none
  standingTimer := none
  releaseTimer := none
  lastPress := none
  buttonDemand := none

/-- The line interface after a cold start, the straps reading 0, before the issue unit's low-water test (R120 and the
tables that close chapters 06 and 07). DEDUCED (log 37): no JOIN is pending, a flag those tables do not list; unsafe. -/
def Line.reset : Line where
  link := .dark
  address := 0
  idleCount := 0
  urgentThreshold := Config.urgentBase
  routineThreshold := Config.routineBase
  turn := .queue
  faultRun := 0
  tx := none
  up := .mark
  rx := { marks := 0, phase := .waiting }
  resume := false
  joinPending := false
  joinTimer := none
  admissionTimer := none
  silenceTimer := none
  lostTimer := none
  badFrames := 0
  contentions := 0
  faults := 0
  urgent := []
  routine := []
  classMap := ClassMap.defaults
  cursor := none
  highestSent := 0
  saleAckTimer := none
  params := Params.defaults
  condition := .normal
  textCode := 0
  tableReused := false
  statusOwed := false
  statusTimer := none
  discards := 0

/-- The time base after a cold start (R66). -/
def Clock.reset : Clock where
  time := { sec := 0, tick := 0 }
  day := 0
  setMarker := false
  owed := false
  timeState := .unset
  slew := 0
  slewHalf := false
  disputes := 0
  holdover := none
  crystal := 0
  frameStart := none
  loss := false
  startKind := .cold

/-- The issue unit after a cold start, before its low-water test (R105, R107). -/
def Issue.reset : Issue where
  sale := none
  hold := .free
  limitTimer := none
  blocks := []
  journal := []
  sequence := 0
  askTimer := none
  quoteDemand := none

/-- The HC7 right after a full reset that is a cold start, with the straps reading 0, OCC released and both SEL pins high.
The low-water test that follows a cold start has offered a SERIAL_ASK with 0, latched SERIAL_LOW and started the
ask-repeat timer (R96, R107, R199). DESIGN CHOICE (log 4): the kind of start and the pins; unsafe. -/
def State.reset : State where
  calls := { active := [], next := [], nextState := .empty }
  board := { board := { condition := .normal, textCode := 0, notSet := true, rows := [] }, revision := 0 }
  clock := Clock.reset
  fares := FareTable.defaults
  issue := { Issue.reset with askTimer := some Config.askRepeat }
  line := { Line.reset with routine := [.serialAsk 0] }
  platform := Platform.reset
  screen := Screen.reset
  vport := { PortState.reset with notices := 0x0008#16 }
  sport := PortState.reset
  wakes := 0
  pending := []

end Sys2Proof.Machine
end

