-- ==== Sys2Proof/Machine/Framing.lean ====
section
/-! DEFINITION. Frames on the branch line (R110, R111): symbols, check, stuffing, and the downward receiver. -/

namespace Sys2Proof.Machine

/-- The symbols of an octet, most significant first, a one being a mark (R110); mark is `true`. -/
def octetBits (b : Byte) : List Bool :=
  [b.getLsbD 7, b.getLsbD 6, b.getLsbD 5, b.getLsbD 4, b.getLsbD 3, b.getLsbD 2, b.getLsbD 1, b.getLsbD 0]

/-- The symbols of some octets in order. -/
def bitsOf (bs : List Byte) : List Bool := bs.flatMap octetBits

/-- The number whose bits are `bits`, most significant first. -/
def bitsNat (bits : List Bool) : Nat := bits.foldl (fun n b => 2 * n + b.toNat) 0

/-- The first `n` octets that some symbols spell. -/
def octetsOf : Nat → List Bool → List Byte
  | 0, _ => []
  | n + 1, bits => BitVec.ofNat 8 (bitsNat (bits.take 8)) :: octetsOf n (bits.drop 8)

/-- One symbol through the check register of generator x^16 + x^12 + x^5 + 1 (R110). -/
def crcBit (c : BitVec 16) (b : Bool) : BitVec 16 :=
  if c.getLsbD 15 != b then (c <<< 1) ^^^ 0x1021#16 else c <<< 1

/-- The check of some octets: the register preset to all ones, no final inversion (R110). -/
def crc (bs : List Byte) : BitVec 16 := (bitsOf bs).foldl crcBit 0xFFFF#16

/-- The two check octets, most significant first. -/
def crcBytes (bs : List Byte) : List Byte := beBytes 2 (crc bs).toNat

/-- The octets of a frame before its check: address, kind, length, payload (R110). -/
def frameBody (addr kind : Byte) (payload : List Byte) : List Byte :=
  addr :: kind :: BitVec.ofNat 8 payload.length :: payload

/-- Stuffing: a space after every run of 5 consecutive marks (R110); the first argument is the run so far. -/
def stuff : Nat → List Bool → List Bool
  | _, [] => []
  | run, true :: bs => if run = 4 then true :: false :: stuff 0 bs else true :: stuff (run + 1) bs
  | _, false :: bs => false :: stuff 0 bs

/-- A symbol of the line. -/
def toSymbol (b : Bool) : Symbol := if b then .mark else .space

/-- The symbols of a whole frame: the start space, the octets and the check, stuffed (R110). -/
def frameSymbols (body : List Byte) : List Symbol :=
  ((stuff 0 (false :: bitsOf (body ++ crcBytes body)))).map toSymbol

/-- What the receiver makes of the symbols of a frame so far (R111): a length octet above 40 ends it, and after the last
check symbol it is valid or bad. -/
def rxJudge (bits : List Bool) : RxPhase :=
  let n := bits.length
  let len := bitsNat ((bits.drop 16).take 8)
  if n < 24 then .receiving bits
  else if 40 < len then .bad .length
  else if n < 40 + 8 * len then .receiving bits
  else
    let body := octetsOf (3 + len) bits
    if octetsOf 2 (bits.drop (24 + 8 * len)) = crcBytes body then .valid body else .bad .check

/-- Whether a phase is inside a frame. -/
def RxPhase.inFrame : RxPhase → Bool
  | .starting | .receiving _ => true
  | .waiting | .valid _ | .bad _ => false

/-- A space now is the start symbol of a frame: 6 consecutive marks have gone before it (R111). -/
def Receiver.ready (r : Receiver) : Bool := !r.phase.inFrame && r.marks = 6

/-- The start symbol of a frame has arrived (R111). An ended frame that the receiver still held is given up (log 36). -/
def Receiver.startArrives (r : Receiver) : Receiver := if r.ready then { marks := 0, phase := .starting } else r

/-- The receiver after the symbols so far of a frame: once the frame has completed or been ended it waits again for
6 marks (R111). DEDUCED (log 13): the marks of the ended frame do not count among them; unsafe. -/
def rxAfter (marks : Nat) (phase : RxPhase) : Receiver :=
  if phase.inFrame then { marks := marks, phase := phase } else { marks := 0, phase := phase }

/-- The downward receiver takes one message symbol at the end of its period (R111). A start symbol that has arrived before
ends its period here; a mark cannot, and leaves the receiver as it is (log 36). -/
def rxSymbol (r : Receiver) (m : Symbol) : Receiver :=
  match r.phase, m with
  | .starting, .mark => r
  | .starting, .space => { marks := 0, phase := .receiving [] }
  | .receiving bits, .mark =>
    if r.marks = 5 then rxAfter 0 (.bad .aborted) else rxAfter (r.marks + 1) (rxJudge (bits ++ [true]))
  | .receiving bits, .space =>
    if r.marks = 5 then { r with marks := 0 } else rxAfter 0 (rxJudge (bits ++ [false]))
  | .waiting, .mark | .valid _, .mark | .bad _, .mark => { r with marks := min (r.marks + 1) 6 }
  | phase, .space => if r.marks = 6 then { marks := 0, phase := .receiving [] } else { marks := 0, phase := phase }

/-- The receiver once the frame it held or was taking has been dealt with: it waits for the next start (R111). -/
def rxClose (r : Receiver) : Receiver :=
  if r.phase.inFrame then { marks := 0, phase := .waiting } else { r with phase := .waiting }

/-- Whether the receiver's frame can be the valid frame of these octets: it can unless the receiver holds another frame
it has completed, or one it has discarded (log 5). -/
def rxAdmits (r : Receiver) (body : List Byte) : Bool :=
  match r.phase with
  | .valid octets => octets = body
  | .bad _ => false
  | _ => true

/-- Whether the receiver's frame can be one that was discarded for this cause (log 5). -/
def rxAdmitsBad (r : Receiver) (cause : BadCause) : Bool :=
  match r.phase with
  | .valid _ => false
  | .bad c => c = cause
  | _ => true

end Sys2Proof.Machine
end

