-- ==== Sys2Proof/Machine/Expected.lean ====
section
/-! DEFINITION. The arithmetic of calls and of the board: normalisation of a load (R2, R3, R7), expected times (R28 to
R32), cut-offs and deadlines (R33 to R39), and the build of the board (R41 to R48). -/

namespace Sys2Proof.Machine

/-! ## Time of day -/

/-- A time of day in ticks of 1/16 s. -/
def TimeOfDay.ticks (t : TimeOfDay) : Nat := 16 * t.sec + t.tick

/-- The time of day of a count of ticks, whole days dropped. -/
def TimeOfDay.ofTicks (n : Nat) : TimeOfDay :=
  { sec := n % Config.dayTicks / 16, tick := n % 16 }

/-! ## Call records -/

/-- The live fields a record has when it enters a bank (R4). -/
def Live.cleared : Live where
  state := .scheduled
  notice := none
  ea := none
  ed := none
  aa := none
  ad := none
  passed := false
  beyond := false
  sold := 0
  stop := .none
  origin := none
  wantedAt := none
  ackTimer := none

/-- The record with its live fields cleared (R4). -/
def Call.cleared (c : Call) : Call := { c with toLive := Live.cleared }

/-- SCHEDULED, DUE and ARRIVED are the saleable states (R17). -/
def CallState.saleable : CallState → Bool
  | .scheduled | .due | .arrived => true
  | .cancelled | .departed | .lapsed => false

/-- SCHEDULED and DUE: the states that are evaluated (R35), matched (R157) and cancelled (R14). -/
def CallState.isOpen : CallState → Bool
  | .scheduled | .due => true
  | .cancelled | .arrived | .departed | .lapsed => false

/-- A record enters a bank in the place of its service number, replacing one of the same number (R5, R8). -/
def bankPut (c : Call) : List Call → List Call
  | [] => [c]
  | d :: ds =>
    if c.service < d.service then c :: d :: ds
    else if c.service = d.service then c :: ds
    else d :: bankPut c ds

/-- The call of a bank with this service number. -/
def bankFind (n : Nat) (bank : List Call) : Option Call := bank.find? fun c => c.service = n

/-- The served-destination list of a load: clamped, duplicates dropped, the first 6 kept (R2). -/
def normaliseServed (codes : List Nat) : List Nat :=
  (firstOnly (codes.map (clamp 1 999))).take 6

/-- An upstream point joins the list, or replaces the allowance of the entry it repeats (R3). -/
def putPoint (ps : List (Nat × Nat)) (e : Nat × Nat) : List (Nat × Nat) :=
  if ps.any fun q => q.1 = e.1 then ps.map fun q => if q.1 = e.1 then e else q else ps ++ [e]

/-- The upstream-point list of a load: clamped, distinct point codes, the first 4 kept (R3). -/
def normalisePoints (es : List (Nat × Nat)) : List (Nat × Nat) :=
  ((es.map fun e => (clamp 1 255 e.1, clamp 0 900 e.2)).foldl putPoint []).take 4

/-- R7's normalisation of a loaded record, all but the kind, which its code decides. -/
def Scheduled.normalise (c : Scheduled) : Scheduled :=
  { c with
    service := clamp 1 9999 c.service
    dest := clamp 1 999 c.dest
    sa := c.sa.map (clamp 0 Config.lastSecond)
    sd := c.sd.map (clamp 0 Config.lastSecond)
    md := clamp 0 600 c.md
    served := normaliseServed c.served
    points := normalisePoints c.points }

/-- R7's third check: SA or SD is present, and SA ≤ SD where both are. -/
def Scheduled.timesOk (c : Scheduled) : Bool :=
  match c.sa, c.sd with
  | none, none => false
  | some sa, some sd => sa ≤ sd
  | _, _ => true

/-! ## Expected times -/

/-- The recovery allowance the upstream points give for a point code, 0 where they list none (R28). -/
def allowance (points : List (Nat × Nat)) (point : Nat) : Nat :=
  ((points.find? fun q => q.1 = point).map Prod.snd).getD 0

/-- The effective delay E (R28). -/
def effectiveDelay (points : List (Nat × Nat)) : Option DelayNotice → Int
  | none => 0
  | some n => if 0 < n.delay then max (n.delay - allowance points n.point) 0 else max n.delay (-300)

/-- A time held within the service day (R29). -/
def heldInDay (t : Int) : Nat := (clampInt 0 Config.lastSecond t).toNat

/-- Whether a time was held at 86,399 (R29). -/
def pastDay (t : Int) : Bool := Config.lastSecond < t

/-- The before-arrival formula (R29). -/
def beforeArrival (c : Call) : Call :=
  let e := effectiveDelay c.points c.notice
  match c.sa, c.sd with
  | some sa, sd =>
    let ea := heldInDay (sa + e)
    { c with
      ea := some ea
      ed := sd.map fun d => heldInDay (max d (ea + c.md) : Nat)
      beyond := pastDay (sa + e) || (sd.any fun d => pastDay (max d (ea + c.md) : Nat)) }
  | none, sd =>
    { c with
      ea := none
      ed := sd.map fun d => heldInDay (d + max e 0)
      beyond := sd.any fun d => pastDay (d + max e 0) }

/-- EA, ED and the beyond-day flag of a call at the platform (R30). -/
def atPlatform (c : Call) (aa : Nat) : Call :=
  { c with
    ea := c.sa.map fun _ => aa
    ed := c.sd.map fun d => heldInDay (max d (aa + c.md) : Nat)
    beyond := c.sd.any fun d => pastDay (max d (aa + c.md) : Nat) }

/-- EA, ED and the beyond-day flag of a departed call (R31). -/
def gone (c : Call) (ad : Nat) : Call :=
  { c with
    ea := c.sa.bind fun _ => if c.passed then some ad else c.aa
    ed := c.sd.map fun _ => ad
    beyond := false }

/-- The recomputation of a call by its state (R29 to R31). An ARRIVED call without AA or a DEPARTED one without AD is in
no run; it takes the before-arrival formula (log 24). -/
def recompute (c : Call) : Call :=
  match c.state, c.aa, c.ad with
  | .arrived, some aa, _ => atPlatform c aa
  | .departed, _, some ad => gone c ad
  | _, _, _ => beforeArrival c

/-- Approach time (R32). -/
def approach (c : Call) : Option Nat := if c.sa.isSome then c.ea else c.ed

/-- Board time (R32). -/
def boardTime (c : Call) : Option Nat := if c.sd.isSome then c.ed else c.ea

/-- The scheduled approach time (R157). -/
def schedApproach (c : Call) : Nat := (c.sa.or c.sd).getD 0

/-! ## Cut-offs and deadlines -/

/-- Sales cut-off: ED − sales margin, of a call with SD (R33). -/
def salesCutoff (p : Params) (c : Call) : Option Int :=
  c.sd.bind fun _ => c.ed.map fun t => (t : Int) - p.salesMargin

/-- Request cut-off: approach time − request margin (R34). -/
def requestCutoff (p : Params) (c : Call) : Option Int :=
  (approach c).map fun t => (t : Int) - p.requestMargin

/-- DUE point: approach time − due window (R35). -/
def duePoint (p : Params) (c : Call) : Option Int :=
  (approach c).map fun t => (t : Int) - p.dueWindow

/-- Lapse point: approach time + attribution window (R36). -/
def lapsePoint (p : Params) (c : Call) : Option Int :=
  (approach c).map fun t => (t : Int) + p.attribution

/-- Now is before a cut-off. -/
def isBefore (now : Nat) (t : Option Int) : Bool := t.any fun x => (now : Int) < x

/-- Now is at or after a point. -/
def isReached (now : Nat) (t : Option Int) : Bool := t.any fun x => x ≤ (now : Int)

/-- Now is past a point. -/
def isPast (now : Nat) (t : Option Int) : Bool := t.any fun x => x < (now : Int)

/-- The state an evaluation gives a call (R35). -/
def evaluated (p : Params) (now : Nat) (c : Call) : CallState :=
  if !c.state.isOpen then c.state
  else if isPast now (lapsePoint p c) then .lapsed
  else if isReached now (duePoint p c) then .due
  else .scheduled

/-- The staleness point of the stored notice (R39). -/
def stalenessPoint (p : Params) (c : Call) : Option Int :=
  c.notice.map fun n => (n.report : Int) + p.stalenessLimit

/-- The stored notice is stale (R39). -/
def isStale (p : Params) (now : Nat) (c : Call) : Bool := isPast now (stalenessPoint p c)

/-! ## The board -/

/-- Display end of a cancelled call (R42). -/
def displayEnd (p : Params) (c : Call) : Option Int :=
  (c.sd.or c.sa).map fun t => (t : Int) + 60 * p.cancelledHold

/-- Horizon entry of a call: board time − horizon (R42). -/
def horizonEntry (p : Params) (c : Call) : Option Int :=
  (boardTime c).map fun t => (t : Int) - 60 * p.boardHorizon

/-- Wake entry of a row: board time − wake window (R176). -/
def wakeEntry (p : Params) (c : Call) : Option Int :=
  (boardTime c).map fun t => (t : Int) - 60 * p.wakeWindow

/-- The state condition of R42. -/
def boardState (p : Params) (now : Nat) (c : Call) : Bool :=
  c.state.saleable || (c.state = .cancelled && isBefore now (displayEnd p c))

/-- A candidate for the board (R42). -/
def candidate (p : Params) (now : Nat) (c : Call) : Bool :=
  boardState p now c && isReached now (horizonEntry p c)

/-- Scheduled minute (R45). -/
def schedMinute (c : Call) : Nat := (c.sd.or c.sa).getD 0 / 60

/-- Expected minute (R45). -/
def expMinute (c : Call) : Nat := (boardTime c).getD 0 / 60

/-- Status of a row (R46). -/
def rowStatus (p : Params) (c : Call) : RowStatus :=
  if c.state = .cancelled then .cancelled
  else if c.state = .arrived then .atPlatform
  else if c.state = .due then .due
  else if schedMinute c + p.lateThreshold ≤ expMinute c then .late
  else .onTime

/-- Flags of a row (R47). -/
def rowFlags (p : Params) (ts : TimeState) (now : Nat) (c : Call) : RowFlags where
  requestStop := c.kind = .request
  stopConfirmed := c.stop = .confirmed
  stopPending := c.stop = .wanted || c.stop = .sent
  handSignal := c.stop = .late
  unconfirmed := ts = .holdover || isStale p now c
  terminates := c.sd.isNone
  beyondDay := c.beyond

/-- The row of a call (R45). -/
def rowOf (p : Params) (ts : TimeState) (now : Nat) (c : Call) : Row where
  service := c.service
  dest := c.dest
  schedMinute := schedMinute c
  expMinute := expMinute c
  status := rowStatus p c
  lateMinutes := min (expMinute c - schedMinute c) 999
  flags := rowFlags p ts now c

/-- Order by a time and then by service number. -/
def timeThenService (key : Call → Option Nat) (c d : Call) : Bool :=
  match key c, key d with
  | some t, some u => t < u || (t = u && c.service ≤ d.service)
  | some _, none => true
  | none, some _ => false
  | none, none => c.service ≤ d.service

/-- The rows of the build: none while the time is UNSET (R48), else the first six candidates by board time and service
number (R43). -/
def boardRowsOf (p : Params) (ts : TimeState) (now : Nat) (bank : List Call) : List Row :=
  if ts = .unset then []
  else ((sortBy (timeThenService boardTime) (bank.filter (candidate p now))).take Config.boardRows).map (rowOf p ts now)

end Sys2Proof.Machine
end

