-- ==== Sys2Proof/Machine/Operands.lean ====
section
/-! DEFINITION. The operands of the commands: the fields a payload carries, by the layouts of chapter 11, and the payloads
that are malformed (R136, R203) or refused on form (R191). A reader answers `none` for a payload of those kinds. -/

namespace Sys2Proof.Machine

/-! ## Downward messages (11.4) -/

/-- The kinds defined for downward frames. -/
inductive DownKind
  | beacon
  | delay
  | cancel
  | reinstate
  | restart
  | admission
  | stopAck
  | saleAck
  | serialGrant
  | hold
  | release
  | loadCall
  | loadClear
  | loadEnd
  | loadFareDest
  | loadFarePrice
  | loadConcession
  | loadParams
  | setTime
  deriving DecidableEq, Repr

/-- The kind octet (11.4). -/
def DownKind.code : DownKind → Byte
  | .beacon => 0x01#8
  | .delay => 0x02#8
  | .cancel => 0x03#8
  | .reinstate => 0x04#8
  | .restart => 0x05#8
  | .admission => 0x06#8
  | .stopAck => 0x07#8
  | .saleAck => 0x08#8
  | .serialGrant => 0x09#8
  | .hold => 0x0A#8
  | .release => 0x0B#8
  | .loadCall => 0x0C#8
  | .loadClear => 0x0D#8
  | .loadEnd => 0x0E#8
  | .loadFareDest => 0x0F#8
  | .loadFarePrice => 0x10#8
  | .loadConcession => 0x11#8
  | .loadParams => 0x12#8
  | .setTime => 0x13#8

/-- Every kind defined for downward frames. -/
def DownKind.all : List DownKind :=
  [.beacon, .delay, .cancel, .reinstate, .restart, .admission, .stopAck, .saleAck, .serialGrant, .hold, .release,
    .loadCall, .loadClear, .loadEnd, .loadFareDest, .loadFarePrice, .loadConcession, .loadParams, .setTime]

/-- The kind a kind octet names, if it is defined for downward frames. -/
def DownKind.ofCode (b : Byte) : Option DownKind := DownKind.all.find? fun k => k.code = b

/-- The broadcast kinds, taken under the halt's own address too (R127). -/
def DownKind.isBroadcast : DownKind → Bool
  | .beacon | .delay | .cancel | .reinstate | .restart => true
  | _ => false

/-- The load kind of the LOAD_REPLY that answers a kind, for the nine kinds that are answered (R137). -/
def DownKind.loadKind : DownKind → Option LoadKind
  | .loadCall => some .call
  | .loadClear => some .clear
  | .loadEnd => some .ending
  | .loadFareDest => some .fareDest
  | .loadFarePrice => some .farePrice
  | .loadConcession => some .concession
  | .loadParams => some .params
  | .setTime => some .time
  | .serialGrant => some .serialGrant
  | _ => none

/-- Whether a kind is taken in a link state (R127). -/
def DownKind.takenIn (k : DownKind) : LinkState → Bool
  | .dark => false
  | .hunt | .lost => k.isBroadcast
  | .synced => k.isBroadcast || k = .admission
  | .admitted => true

/-- A payload of a required length. -/
def ofLength {α : Type} (n : Nat) (p : List Byte) (v : α) : Option α := if p.length = n then some v else none

/-- A service number alone: CANCEL, REINSTATE, STOP_ACK. -/
def readService (p : List Byte) : Option Nat := ofLength 2 p (field p 0 2)

/-- An empty payload: RESTART, HOLD, RELEASE, LOAD_CLEAR. -/
def readNothing (p : List Byte) : Option Unit := ofLength 0 p ()

structure BeaconFields where
  time : TimeOfDay
  day : BitVec 16
  condition : BranchCondition
  textCode : Nat
  deriving DecidableEq, Repr

/-- The condition a code names (R200). -/
def conditionOf : Nat → Option BranchCondition
  | 0 => some .normal
  | 1 => some .disrupted
  | 2 => some .suspended
  | 3 => some .closed
  | _ => none

/-- BEACON: seconds clamped into 0..86,399, a tick octet above 15 read as 15 (R53); a condition beyond the list is
malformation (R136). -/
def readBeacon (p : List Byte) : Option BeaconFields :=
  if p.length = 8 then
    (conditionOf (field p 6 1)).map fun c =>
      { time := { sec := clamp 0 Config.lastSecond (field p 0 3), tick := clamp 0 15 (field p 3 1) }
        day := BitVec.ofNat 16 (field p 4 2)
        condition := c
        textCode := field p 7 1 }
  else none

structure DelayFields where
  service : Nat
  notice : DelayNotice
  deriving DecidableEq, Repr

/-- DELAY, its fields clamped (R26). -/
def readDelay (p : List Byte) : Option DelayFields :=
  ofLength 8 p
    { service := field p 0 2
      notice :=
        { delay := clampInt (-900) 21600 (signed16 (field p 3 2))
          point := clamp 1 255 (field p 2 1)
          report := clamp 0 Config.lastSecond (field p 5 3) } }

structure AdmitFields where
  classMap : ClassMap
  resume : Bool
  deriving DecidableEq, Repr

/-- The class a code names (R200). -/
def classOf : Nat → Option AccessClass
  | 0 => some .urgent
  | 1 => some .routine
  | _ => none

/-- ADMIT: a class or a resume-allowed field beyond its list is malformation (R136). -/
def readAdmit (p : List Byte) : Option AdmitFields :=
  if p.length = 6 && field p 5 1 ≤ 1 then
    match classOf (field p 0 1), classOf (field p 1 1), classOf (field p 2 1), classOf (field p 3 1),
      classOf (field p 4 1) with
    | some st, some ob, some ho, some sa, some lr =>
      some
        { classMap := { status := st, observation := ob, hold := ho, serialAsk := sa, loadReply := lr }
          resume := field p 5 1 = 1 }
    | _, _, _, _, _ => none
  else none

/-- SALE_ACK: a sequence number. -/
def readSaleAck (p : List Byte) : Option Nat := ofLength 4 p (field p 0 4)

/-- SERIAL_GRANT, normalised: first serial and count (R95). -/
def readGrant (p : List Byte) : Option (Nat × Nat) :=
  let first := clamp 1 Config.serialTop (field p 0 3)
  ofLength 5 p (first, min (clamp 1 Config.grantTop (field p 3 2)) (Config.serialTop + 1 - first))

structure LoadCallFields where
  bank : Nat
  record : Scheduled
  deriving DecidableEq, Repr

/-- Pairs of a point code and a recovery allowance, `n` of them from offset `off`. -/
def readPoints (p : List Byte) : Nat → Nat → List (Nat × Nat)
  | _, 0 => []
  | off, n + 1 => (field p off 1, field p (off + 1) 2) :: readPoints p (off + 3) n

/-- LOAD_CALL, normalised (R7): its length is judged from its two count octets (R203); MD is 30 where absent; a kind code
beyond the list is REQUEST. -/
def readLoadCall (p : List Byte) : Option LoadCallFields :=
  let s := field p 14 1
  let u := field p (15 + 2 * s) 1
  ofLength (16 + 2 * s + 3 * u) p
    { bank := field p 0 1
      record := Scheduled.normalise
        { service := field p 1 2
          dest := field p 3 2
          kind := if field p 5 1 = 0 then .stops else .request
          sa := optField p 6 3
          sd := optField p 9 3
          md := (optField p 12 2).getD 30
          served := fields p 2 15 s
          points := readPoints p (16 + 2 * s) u } }

/-- LOAD_END: a count. -/
def readLoadEnd (p : List Byte) : Option Nat := ofLength 1 p (field p 0 1)

/-- LOAD_FARE_DEST, clamped: destination code and zone count (R73). -/
def readFareDest (p : List Byte) : Option (Nat × Nat) :=
  ofLength 3 p (clamp 1 999 (field p 0 2), clamp 0 12 (field p 2 1))

/-- LOAD_FARE_PRICE, clamped (R74). -/
def readFarePrice (p : List Byte) : Option PriceBlock :=
  ofLength 32 p
    { zones := (fields p 2 0 12).map (clamp 0 20000)
      ret := clamp 100 250 (field p 24 1)
      off := clamp 0 90 (field p 25 1)
      peakStart := clamp 0 Config.lastSecond (field p 26 3)
      peakEnd := clamp 0 Config.lastSecond (field p 29 3) }

structure ConcessionFields where
  code : Nat
  slot : Option Concession
  deriving DecidableEq, Repr

/-- LOAD_CONCESSION, clamped (R75): an absent discount withdraws the slot. -/
def readConcession (p : List Byte) : Option ConcessionFields :=
  ofLength 4 p
    { code := clamp 0 7 (field p 0 1)
      slot := (optField p 1 1).map fun d => { discount := clamp 0 100 d, minimum := clamp 0 2000 (field p 2 2) } }

/-- Each threshold below its predecessor, as already raised, is raised to it (R145). -/
def ascending : Nat → List Nat → List Nat
  | _, [] => []
  | low, t :: ts => max low t :: ascending (max low t) ts

/-- LOAD_PARAMS, normalised (R145, ranges of R144). -/
def readParams (p : List Byte) : Option Params :=
  ofLength 39 p
    { salesMargin := clamp 0 600 (field p 0 2)
      requestMargin := clamp 120 1800 (field p 2 2)
      dueWindow := clamp 60 600 (field p 4 2)
      boardHorizon := clamp 30 240 (field p 6 1)
      lateThreshold := clamp 1 15 (field p 7 1)
      cancelledHold := clamp 0 60 (field p 8 1)
      stalenessLimit := clamp 300 3600 (field p 9 2)
      stopThreshold := clamp 5 60 (field p 11 1)
      attribution := clamp 300 3600 (field p 12 2)
      wakeWindow := clamp 5 60 (field p 14 1)
      idleDelay := clamp 30 900 (field p 15 2)
      thresholds := ascending 0 ((fields p 2 17 7).map (clamp 0 65535))
      levels := (fields p 1 31 8).map (clamp 0 63) }

/-- SET_TIME: seconds clamped into 0..86,399, day number (R62). -/
def readSetTime (p : List Byte) : Option (Nat × BitVec 16) :=
  ofLength 5 p (clamp 0 Config.lastSecond (field p 0 3), BitVec.ofNat 16 (field p 3 2))

/-! ## Port requests (11.3, R191) -/

/-- The commands of the ports. -/
inductive Command
  | time
  | calls
  | quote
  | commit
  | release
  | salesState
  | notices
  | board
  | condition
  | screen
  | ready
  | quiet
  deriving DecidableEq, Repr

/-- The command code (11.3). -/
def Command.code : Command → Byte
  | .time => 0x01#8
  | .calls => 0x02#8
  | .quote => 0x03#8
  | .commit => 0x04#8
  | .release => 0x05#8
  | .salesState => 0x06#8
  | .notices => 0x07#8
  | .board => 0x08#8
  | .condition => 0x09#8
  | .screen => 0x0A#8
  | .ready => 0x0B#8
  | .quiet => 0x0C#8

/-- Every command. -/
def Command.all : List Command :=
  [.time, .calls, .quote, .commit, .release, .salesState, .notices, .board, .condition, .screen, .ready, .quiet]

/-- The command a command code names. -/
def Command.ofCode (b : Byte) : Option Command := Command.all.find? fun c => c.code = b

/-- The ports that accept a command (10.4). -/
def Command.ofPort : Command → Port → Bool
  | .time, _ | .notices, _ => true
  | .calls, .vending | .quote, .vending | .commit, .vending | .release, .vending | .salesState, .vending => true
  | .board, .signage | .condition, .signage | .screen, .signage | .ready, .signage | .quiet, .signage => true
  | _, _ => false

/-- The first two form checks (R190): at least the length octet after the command code and no partial octet; a length of at
most 60 that counts the octets after it. The payload where both pass. -/
def framed (req : Request) : Option (List Byte) :=
  match req.octets with
  | [] => none
  | len :: payload =>
    if !req.partialOctet && len.toNat ≤ 60 && payload.length = len.toNat then some payload else none

/-- CALLS: a destination code, any value. -/
def readCalls (p : List Byte) : Option Nat := ofLength 2 p (field p 0 2)

structure QuoteFields where
  dest : Nat
  kind : TicketKind
  concession : Nat
  service : Option Nat
  deriving DecidableEq, Repr

/-- The ticket kind a code names (R200). -/
def ticketKindOf : Nat → Option TicketKind
  | 0 => some .single
  | 1 => some .ret
  | 2 => some .dayReturn
  | _ => none

/-- QUOTE: a kind code beyond the list is refused on form (R191). -/
def readQuote (p : List Byte) : Option QuoteFields :=
  if p.length = 6 then
    (ticketKindOf (field p 2 1)).map fun k =>
      { dest := field p 0 2, kind := k, concession := field p 3 1, service := optField p 4 2 }
  else none

/-- COMMIT: a payment code above 3 is refused on form (R191). -/
def readCommit (p : List Byte) : Option Nat :=
  if p.length = 1 && field p 0 1 ≤ 3 then some (field p 0 1) else none

/-- The positions at which a port has a notice (R201). -/
def noticePositions : Port → BitVec 16
  | .vending => 0x00FF#16
  | .signage => 0x001F#16

/-- NOTICES: a mask, absent when FFFFH; one that sets a position the port has no notice for is refused on form (R201). -/
def readNotices (port : Port) (p : List Byte) : Option (Option (BitVec 16)) :=
  if p.length = 2 then
    match optField p 0 2 with
    | none => some none
    | some n =>
      if BitVec.ofNat 16 n &&& ~~~(noticePositions port) = 0 then some (some (BitVec.ofNat 16 n)) else none
  else none

structure ScreenFields where
  mode : Option ScreenMode
  trim : Option Int
  deriving DecidableEq, Repr

/-- The screen mode a code names (R200). -/
def screenModeOf : Nat → Option ScreenMode
  | 0 => some .auto
  | 1 => some .on
  | 2 => some .off
  | _ => none

/-- The optional mode field of SCREEN: absent, or one of the three, or refused (R191). -/
def readMode (p : List Byte) : Option (Option ScreenMode) :=
  match optField p 0 1 with
  | none => some none
  | some m => (screenModeOf m).map some

/-- SCREEN: the trim is carried biased by 128 (R200) and clamped into −16..+15 (R177). -/
def readScreen (p : List Byte) : Option ScreenFields :=
  if p.length = 2 then
    (readMode p).map fun m =>
      { mode := m, trim := (optField p 1 1).map fun v => clampInt (-16) 15 ((v : Int) - 128) }
  else none

end Sys2Proof.Machine
end

