-- ==== Sys2Proof/Machine/Layout.lean ====
section
/-! DEFINITION. The octets of what the HC7 sends: enumeration codes (R200), the responses of the ports (R201, R202) and
the payloads of upward frames (11.4, 11.5). -/

namespace Sys2Proof.Machine

def BranchCondition.code : BranchCondition → Byte
  | .normal => 0#8
  | .disrupted => 1#8
  | .suspended => 2#8
  | .closed => 3#8

def TimeState.code : TimeState → Byte
  | .unset => 0#8
  | .locked => 1#8
  | .holdover => 2#8

def LinkState.code : LinkState → Byte
  | .dark => 0#8
  | .hunt => 1#8
  | .synced => 2#8
  | .admitted => 3#8
  | .lost => 4#8

def Hold.code : Hold → Byte
  | .free => 0#8
  | .asked => 1#8
  | .held => 2#8

def CallKind.code : CallKind → Byte
  | .stops => 0#8
  | .request => 1#8

def TicketKind.code : TicketKind → Byte
  | .single => 0#8
  | .ret => 1#8
  | .dayReturn => 2#8

def StopState.code : StopState → Byte
  | .none => 0#8
  | .wanted => 1#8
  | .sent => 2#8
  | .confirmed => 3#8
  | .late => 4#8

def ScreenMode.code : ScreenMode → Byte
  | .auto => 0#8
  | .on => 1#8
  | .off => 2#8

def Supply.code : Supply → Byte
  | .dark => 0#8
  | .powering => 1#8
  | .lampSettling => 2#8
  | .biasSettling => 3#8
  | .lit => 4#8
  | .fault => 5#8

def RowStatus.code : RowStatus → Byte
  | .cancelled => 0#8
  | .atPlatform => 1#8
  | .due => 2#8
  | .late => 3#8
  | .onTime => 4#8

def StartKind.code : StartKind → Byte
  | .warm => 0#8
  | .cold => 1#8

def Origin.code : Origin → Byte
  | .ticket => 0#8
  | .button => 1#8

def EndReason.code : EndReason → Byte
  | .released => 0#8
  | .expired => 1#8

def ObservationKind.code : ObservationKind → Byte
  | .arrival => 0#8
  | .departure => 1#8
  | .pass => 2#8
  | .standing => 3#8
  | .unmatchedArrival => 4#8
  | .unmatchedDeparture => 5#8

/-- Load kinds are numbered from 01H (R200). -/
def LoadKind.code : LoadKind → Byte
  | .call => 1#8
  | .clear => 2#8
  | .ending => 3#8
  | .fareDest => 4#8
  | .farePrice => 5#8
  | .concession => 6#8
  | .params => 7#8
  | .time => 8#8
  | .serialGrant => 9#8

def LoadOutcome.code : LoadOutcome → Byte
  | .accepted => 0#8
  | .notHeld => 1#8
  | .bankFull => 2#8
  | .tableFull => 3#8
  | .badRecord => 4#8
  | .countMismatch => 5#8
  | .listFull => 6#8
  | .overlap => 7#8
  | .reissue => 8#8

/-- Status codes, from 00H in order (11.3). -/
def Status.code : Status → Byte
  | .ok => 0#8
  | .empty => 1#8
  | .badRequest => 2#8
  | .wrongPort => 3#8
  | .noTime => 4#8
  | .held => 5#8
  | .closed => 6#8
  | .unknownDest => 7#8
  | .unknownConcession => 8#8
  | .suspended => 9#8
  | .unknownCall => 10#8
  | .callGone => 11#8
  | .notServed => 12#8
  | .tooLate => 13#8
  | .peak => 14#8
  | .noSerial => 15#8
  | .journalFull => 16#8
  | .noQuote => 17#8
  | .screenLit => 18#8
  | .noticesPending => 19#8

/-- The flag octet of a row, from value 01H upward in the order R201 gives. -/
def RowFlags.byte (f : RowFlags) : Byte :=
  BitVec.ofNat 8 (f.requestStop.toNat + 2 * f.stopConfirmed.toNat + 4 * f.stopPending.toNat + 8 * f.handSignal.toNat
    + 16 * f.unconfirmed.toNat + 32 * f.terminates.toNat + 64 * f.beyondDay.toNat)

/-- A row of the BOARD response, 12 octets (R201). -/
def rowBytes (r : Row) : List Byte :=
  beBytes 2 r.service ++ beBytes 2 r.dest ++ beBytes 2 r.schedMinute ++ beBytes 2 r.expMinute ++ [r.status.code]
    ++ beBytes 2 r.lateMinutes ++ [r.flags.byte]

/-- The BOARD response (R50, R201). -/
def boardBytes (b : BoardBuilder) : List Byte :=
  beBytes 2 b.revision.toNat
    ++ [b.board.condition.code, BitVec.ofNat 8 b.board.textCode, flagByte b.board.notSet,
      BitVec.ofNat 8 b.board.rows.length]
    ++ b.board.rows.flatMap rowBytes

/-- A journal record, 21 octets (11.5): the SALE payload and the COMMIT response. -/
def ticketBytes (t : Ticket) : List Byte :=
  beBytes 4 t.sequence ++ beBytes 3 t.serial ++ beBytes 2 t.day.toNat ++ beBytes 3 t.issueTime ++ optBytes 2 t.service
    ++ beBytes 2 t.dest ++ [t.kind.code, BitVec.ofNat 8 t.concession] ++ beBytes 2 t.fare ++ [BitVec.ofNat 8 t.payment]

/-- The TIME response (R63, R202). -/
def timeBytes (c : Clock) : List Byte :=
  beBytes 3 c.time.sec ++ [BitVec.ofNat 8 c.time.tick] ++ beBytes 2 c.day.toNat
    ++ [c.timeState.code, flagByte (0 < c.slew)]

/-- A cut-off as an optional field of 3 octets; one below 0 is carried as 0 (R202). -/
def cutoffBytes (t : Option Int) : List Byte := optBytes 3 (t.map Int.toNat)

/-- An entry of the CALLS response, 13 octets (R91, R202). -/
def callsEntry (p : Params) (c : Call) : List Byte :=
  beBytes 2 c.service ++ optBytes 3 c.ed ++ cutoffBytes (salesCutoff p c) ++ [c.kind.code, c.stop.code]
    ++ cutoffBytes (if c.kind = .request then requestCutoff p c else none)

/-- The SCREEN response (R177, R202). -/
def screenBytes (s : Screen) : List Byte :=
  [s.supply.code, BitVec.ofNat 8 s.band, BitVec.ofNat 8 s.level, s.mode.code, BitVec.ofNat 8 (s.trim + 128).toNat]

/-- The pending sale in SALES_STATE: 00H none, 01H QUOTED, 02H VOID (R202). -/
def saleByte : Option Sale → Byte
  | none => 0#8
  | some s => match s.state with
    | .quoted => 1#8
    | .void => 2#8

/-- The serials remaining: the sum of the counts remaining (R93). -/
def remaining (blocks : List Block) : Nat := (blocks.map Block.count).sum

/-- The SALES_STATE response (R92, R202). -/
def salesStateBytes (s : State) : List Byte :=
  beBytes 2 s.issue.journal.length ++ beBytes 2 (remaining s.issue.blocks)
    ++ [s.issue.hold.code, s.clock.timeState.code, s.line.condition.code, s.line.link.code, saleByte s.issue.sale]

/-- The CONDITION response (R147, R202). -/
def conditionBytes (s : State) : List Byte :=
  [s.line.condition.code, BitVec.ofNat 8 s.line.textCode, s.line.link.code, s.clock.timeState.code]

/-- The payload of a STATUS, each field as its owner holds it (R149, 11.4). -/
def statusBytes (s : State) : List Byte :=
  [s.clock.timeState.code, BitVec.ofNat 8 s.clock.disputes] ++ beBytes 2 s.issue.journal.length
    ++ beBytes 2 (remaining s.issue.blocks)
    ++ [s.issue.hold.code, s.screen.supply.code,
      BitVec.ofNat 8 (s.line.tableReused.toNat + 2 * (decide (s.screen.supply = .fault)).toNat)]
    ++ beBytes 2 s.line.badFrames ++ beBytes 2 s.line.contentions ++ beBytes 2 s.line.faults ++ beBytes 2 s.line.discards

/-- The payload of a JOIN: start kind, oldest unacknowledged sequence, serials remaining (R122, 11.4). -/
def joinBytes (s : State) : List Byte :=
  [s.clock.startKind.code] ++ listOfOne 4 (s.issue.journal.head?.map Ticket.sequence)
    ++ beBytes 2 (remaining s.issue.blocks)

/-- An optional enumeration code; absent as all ones (R200). -/
def originByte : Option Origin → Byte
  | none => 0xFF#8
  | some o => o.code

/-- The kind octet of an item's frame (11.4). -/
def Item.kindByte : Item → Byte
  | .status => 0x42#8
  | .stopRequest _ _ _ => 0x44#8
  | .observation _ _ _ => 0x45#8
  | .serialAsk _ => 0x46#8
  | .holdGranted => 0x47#8
  | .holdEnded _ => 0x48#8
  | .loadReply _ _ _ => 0x49#8

/-- The payload of an item's frame (R129, 11.4). -/
def Item.payload (s : State) : Item → List Byte
  | .status => statusBytes s
  | .stopRequest n o w => beBytes 2 n ++ [originByte o] ++ optBytes 3 w
  | .observation k n t => [k.code] ++ optBytes 2 n ++ optBytes 3 t
  | .serialAsk n => beBytes 2 n
  | .holdGranted => []
  | .holdEnded r => [r.code]
  | .loadReply k o r => [k.code, o.code] ++ listOfOne 3 r

/-- The halt's address octet (R110). -/
def addressByte (s : State) : Byte := BitVec.ofNat 8 s.line.address

/-- The octets, before the check, of the frame a source sends (R114, 11.4). -/
def sourceBody (s : State) : TxSource → List Byte
  | .join => frameBody (addressByte s) 0x41#8 (joinBytes s)
  | .urgentItem i | .routineItem i => frameBody (addressByte s) i.kindByte (i.payload s)
  | .sale n =>
    frameBody (addressByte s) 0x43#8 (((s.issue.journal.find? fun t => t.sequence = n).map ticketBytes).getD [])

end Sys2Proof.Machine
end

