-- ==== Sys2Proof/Machine/Flags.lean ====
section
/-! DEFINITION. The latched notices of the two ports (R193, R194), the outputs RDY and NOTICE (R186), what a port reset
does to a port (R196 to R198), and the framing of a transaction (R187, R189). -/

namespace Sys2Proof.Machine

/-- The notice names of the vending port (R186). -/
inductive VNotice
  | quoteLapsed
  | quoteVoid
  | holdChanged
  | serialLow
  | journalNearFull
  | timeState
  | condition
  | linkState
  deriving DecidableEq, Repr

/-- The notice names of the signage port (R186). -/
inductive SNotice
  | boardChanged
  | condition
  | timeState
  | stopButton
  | screenState
  deriving DecidableEq, Repr

/-- The bit of a vending notice: 2 to the power of its position (R201). -/
def VNotice.bit : VNotice → BitVec 16
  | .quoteLapsed => 0x0001#16
  | .quoteVoid => 0x0002#16
  | .holdChanged => 0x0004#16
  | .serialLow => 0x0008#16
  | .journalNearFull => 0x0010#16
  | .timeState => 0x0020#16
  | .condition => 0x0040#16
  | .linkState => 0x0080#16

/-- The bit of a signage notice (R201). -/
def SNotice.bit : SNotice → BitVec 16
  | .boardChanged => 0x0001#16
  | .condition => 0x0002#16
  | .timeState => 0x0004#16
  | .stopButton => 0x0008#16
  | .screenState => 0x0010#16

/-- A cause latches a notice, masked or not, unless the port is held in reset (R193). -/
def PortState.latch (p : PortState) (bit : BitVec 16) : PortState :=
  if p.held then p else { p with notices := p.notices ||| bit }

/-- A notice of the vending port is latched (R193). -/
def latchV (n : VNotice) (s : State) : State := { s with vport := s.vport.latch n.bit }

/-- A notice of the signage port is latched (R193); SIGPWR takes no part. -/
def latchS (n : SNotice) (s : State) : State := { s with sport := s.sport.latch n.bit }

/-- The notices pending and unmasked (R194). -/
def PortState.unmasked (p : PortState) : BitVec 16 := p.notices &&& ~~~p.mask

/-- What a port reset sets (R186), SEL being low or high at that moment: steps 1 to 3 of R196 and R197. -/
def PortState.afterReset (p : PortState) (selLow : Bool) : PortState :=
  { p with
    selLow := selLow
    framing := if selLow then .discard else .idle
    octets := []
    buffer := none
    notices := 0
    mask := 0 }

/-- A reset line goes low: the port is held, and a transaction that is open, SEL being low on a powered port, is ended
(R187, R196, R198). DESIGN CHOICE (log 1): on a port already held, a hold samples SEL again and acts as on any other; unsafe.
-/
def PortState.hold (p : PortState) (isPowered selLow : Bool) : PortState :=
  if isPowered && selLow then { p with held := true, selLow := true, framing := .discard, octets := [] }
  else { p with held := true, selLow := selLow }

/-! ## A transaction, octet by octet (R187, R189) -/

/-- The code that makes a transaction a collection (11.3). -/
def collectionCode : Byte := 0xA5#8

/-- SEL falls: the port opens a transaction, unless it ignores octets until SEL rises (R187). -/
def PortState.selFalls (p : PortState) : PortState :=
  if p.framing = .discard then { p with selLow := true } else { p with selLow := true, framing := .idle, octets := [] }

/-- A whole octet has been shifted in (R187): the first says what the transaction is, and those of a request are kept, up to
62 in all. -/
def PortState.octetIn (p : PortState) (b : Byte) : PortState :=
  match p.framing with
  | .idle =>
    if b = collectionCode then { p with framing := .collection } else { p with framing := .request, octets := [b] }
  | .request => if p.octets.length < 62 then { p with octets := p.octets ++ [b] } else p
  | .collection | .discard => p

/-- Whole octets have been shifted in, in order (R187). -/
def PortState.shiftIn (p : PortState) (bs : List Byte) : PortState := bs.foldl PortState.octetIn p

/-- The octets a collection shifts out from its second octet onward, all ones after them: the response, or EMPTY with a
length of 0 (R189). -/
def responseOctets : Option Response → List Byte
  | some r => r.status.code :: BitVec.ofNat 8 r.payload.length :: r.payload
  | none => [Status.empty.code, 0#8]

/-- The octet DOUT shifts out while the one after the first `n` octets of a transaction comes in: all ones during the first
octet and in REQUEST (R187), in COLLECTION the response and all ones after it (R189). The manual gives none in DISCARD. -/
def PortState.octetOut (p : PortState) (n : Nat) : Option Byte :=
  match p.framing with
  | .idle | .request => some 0xFF#8
  | .collection => some ((responseOctets p.buffer).getD (n - 1) 0xFF#8)
  | .discard => none

/-- The octets DOUT shifts out while some octets come in, `n` having come before (R187, R189). -/
def PortState.shiftOut (p : PortState) (n : Nat) : List Byte → List (Option Byte)
  | [] => []
  | b :: bs => p.octetOut n :: (p.octetIn b).shiftOut (n + 1) bs

/-- Whether a port is powered: the signage port is not while SIGPWR is off (R198). -/
def powered (s : State) : Port → Bool
  | .vending => true
  | .signage => s.screen.sigpwr

/-- The state of a port. -/
def portOf (s : State) : Port → PortState
  | .vending => s.vport
  | .signage => s.sport

/-- The state with one port replaced. -/
def setPort (s : State) (port : Port) (p : PortState) : State :=
  match port with
  | .vending => { s with vport := p }
  | .signage => { s with sport := p }

/-- A port takes transactions: it is neither held in reset nor unpowered (R196, R198). -/
def listening (s : State) (port : Port) : Bool := !(portOf s port).held && powered s port

/-- The output RDY (R186). -/
def rdy (s : State) (port : Port) : Bool := (portOf s port).buffer.isSome && listening s port

/-- The output NOTICE (R186, R194). -/
def noticeOut (s : State) (port : Port) : Bool := (portOf s port).unmasked != 0 && listening s port

end Sys2Proof.Machine
end

