-- ==== Sys2Proof/Machine/Ops.lean ====
section
/-! DEFINITION. The operations the commands share, block by block: screen demand, the board, the outbound queues, stop
requests, calls leaving the saleable states, evaluation, the issue unit, the link state, rollover and the platform
monitor's reports. -/

namespace Sys2Proof.Machine

/-! ## Setters of one block -/

def State.mapActive (s : State) (f : Call → Call) : State :=
  { s with calls := { s.calls with active := s.calls.active.map f } }

/-- One call of the ACTIVE bank changes. -/
def State.mapCall (s : State) (n : Nat) (f : Call → Call) : State :=
  s.mapActive fun c => if c.service = n then f c else c

/-- The call of the ACTIVE bank with a service number (R5). -/
def State.call (s : State) (n : Nat) : Option Call := bankFind n s.calls.active

/-- Now, in whole seconds (R37). -/
def State.now (s : State) : Nat := s.clock.time.sec

/-- The time is set (R52). -/
def State.timeSet (s : State) : Bool := s.clock.timeState != .unset

/-! ## Screen supply and demand (chapter 09) -/

/-- Condition 1 of R175: the board holds a row whose board time ≤ now + wake window. -/
def trainNear (s : State) : Bool :=
  s.board.board.rows.any fun r => (s.call r.service).any fun c => isReached s.now (wakeEntry s.line.params c)

/-- Condition 2 of R175. -/
def trainAtPlatform (s : State) : Bool := s.board.board.rows.any fun r => r.status = .atPlatform

/-- Screen demand (R175). -/
def demand (s : State) : Bool :=
  match s.screen.mode with
  | .on => true
  | .off => false
  | .auto =>
    trainNear s || trainAtPlatform s || s.issue.sale.isSome || s.issue.quoteDemand.isSome
      || s.platform.buttonDemand.isSome || s.line.condition != .normal

/-- The band level of the current band and the trim, held within 1..63 (R182). -/
def litLevel (p : Params) (band : Nat) (trim : Int) : Nat := (clampInt 1 63 ((p.levels.getD band 0 : Int) + trim)).toNat

/-- The brightness level recomputed (R182). -/
def relevel (s : State) : State :=
  { s with screen := { s.screen with
      level := if s.screen.supply = .lit then litLevel s.line.params s.screen.band s.screen.trim else 0 } }

/-- SIGPWR turns on, which applies a signage port reset, SSEL being low or high at that moment (R170, R197). -/
def sigpwrOn (selLow : Bool) (s : State) : State :=
  { s with
    screen := { s.screen with sigpwr := true, quiet := false }
    sport := s.sport.afterReset selLow
    wakes := s.wakes + 1 }

/-- SIGPWR turns off: the port takes no transaction and its framing state is IDLE (R198), with no octets kept (log 31). -/
def sigpwrOff (s : State) : State :=
  { s with
    screen := { s.screen with sigpwr := false }
    sport := { s.sport with framing := .idle, octets := [] } }

/-- The chain wakes from DARK by one of its two paths (R170). -/
def wake (selLow : Bool) (s : State) : State :=
  if s.screen.sigpwr then
    { s with screen := { s.screen with supply := .lampSettling, lamp := true, settling := some Config.lampSettling } }
  else
    let s := sigpwrOn selLow s
    { s with screen := { s.screen with supply := .powering, readyTimer := some Config.readyTime } }

/-- Demand in LIT: the idle delay starts when demand is false and none runs, and stops when demand is true (R173). -/
def idleByDemand (s : State) (wanted : Bool) : State :=
  { s with screen := { s.screen with
      idleTimer :=
        if wanted then none
        else if s.screen.idleTimer.isSome then s.screen.idleTimer
        else some (Config.seconds s.line.params.idleDelay) } }

/-- The sequencer evaluates demand afresh and acts on it (R176), SSEL being low or high at that moment. -/
def evalDemandAt (selLow : Bool) (s : State) : State :=
  match s.screen.supply with
  | .dark => if demand s then wake selLow s else s
  | .lit => idleByDemand s (demand s)
  | .powering | .lampSettling | .biasSettling | .fault => s

/-- The sequencer evaluates demand afresh in an event that does not report SSEL, whose level is then free (R176, log 15). -/
def evalDemand (s : State) : State := evalDemandAt (Config.sselLow s.wakes) s

/-! ## The board (chapter 02) -/

/-- The build the current state yields (R41 to R48). -/
def buildBoard (s : State) : Board where
  condition := s.line.condition
  textCode := s.line.textCode
  notSet := s.clock.timeState = .unset
  rows := boardRowsOf s.line.params s.clock.timeState s.now s.calls.active

/-- The board is built and compared with the board it replaces (R49). -/
def newBoard (s : State) : State :=
  if buildBoard s = s.board.board then s
  else latchS .boardChanged { s with board := { board := buildBoard s, revision := s.board.revision + 1 } }

/-- A build event of the board, and the evaluation of demand that follows every rebuild (R49, R176). -/
def rebuild (s : State) : State := evalDemand (newBoard s)

/-! ## The outbound queues (chapter 07) -/

/-- The queue of a class has room (R131). -/
def Line.hasRoom (l : Line) : AccessClass → Bool
  | .urgent => l.urgent.length < Config.urgentSize
  | .routine => l.routine.length < Config.routineSize

/-- An item joins the tail of its queue, or is discarded by a full queue (R131). -/
def Line.enqueue (k : AccessClass) (i : Item) (l : Line) : Line :=
  { l with
    urgent := if k = .urgent && l.hasRoom .urgent then l.urgent ++ [i] else l.urgent
    routine := if k = .routine && l.hasRoom .routine then l.routine ++ [i] else l.routine
    discards := if l.hasRoom k then l.discards else satSucc Config.countTop l.discards }

/-- An item is offered to the queue of a class (R131). -/
def enqueue (k : AccessClass) (i : Item) (s : State) : State := { s with line := s.line.enqueue k i }

def offerObservation (k : ObservationKind) (n t : Option Nat) (s : State) : State :=
  enqueue s.line.classMap.observation (.observation k n t) s

def offerHoldGranted (s : State) : State := enqueue s.line.classMap.hold .holdGranted s

def offerHoldEnded (r : EndReason) (s : State) : State := enqueue s.line.classMap.hold (.holdEnded r) s

def offerReply (k : LoadKind) (o : LoadOutcome) (r : Option Nat) (s : State) : State :=
  enqueue s.line.classMap.loadReply (.loadReply k o r) s

/-- Whether an item is a STOP_REQUEST, and of which call. -/
def Item.isStop : Item → Bool
  | .stopRequest _ _ _ => true
  | _ => false

def Item.isStopFor (n : Nat) : Item → Bool
  | .stopRequest m _ _ => m = n
  | _ => false

/-- The item of the frame in progress has been taken out of its queue (R114, R118). -/
def TxFrame.withdrawn (f : TxFrame) : TxFrame := { f with queued := false }

/-- Whether the frame in progress carries the item at the head of the urgent queue. -/
def TxFrame.carriesUrgent (f : TxFrame) : Bool :=
  f.queued && match f.source with
    | .urgentItem _ => true
    | _ => false

/-- The frame in progress after the head of the urgent queue has been removed without a departure. -/
def headRemoved (tx : Option TxFrame) : Option TxFrame :=
  tx.map fun f => if f.carriesUrgent then f.withdrawn else f

/-- The STOP_REQUEST of a call leaves the urgent queue; a frame on the line goes on (R132). -/
def Line.removeStop (n : Nat) (l : Line) : Line :=
  { l with
    urgent := l.urgent.filter fun i => !i.isStopFor n
    tx := if l.urgent.head?.any (Item.isStopFor n) then headRemoved l.tx else l.tx }

/-- The STOP_REQUEST of a call is removed from the urgent queue (R132). -/
def removeStop (n : Nat) (s : State) : State := { s with line := s.line.removeStop n }

/-- The list less its first item that is not a STOP_REQUEST (R132). -/
def dropOldestOther : List Item → List Item
  | [] => []
  | i :: is => if i.isStop then i :: dropOldestOther is else is

/-- A STOP_REQUEST is offered to the urgent queue under R132's rules; `none` where the offer is not taken. -/
def Line.offerStop (i : Item) (l : Line) : Option Line :=
  if l.urgent.length < Config.urgentSize then some { l with urgent := l.urgent ++ [i] }
  else if l.urgent.all Item.isStop then none
  else
    some { l with
      urgent := dropOldestOther l.urgent ++ [i]
      tx := if l.urgent.head?.any Item.isStop then l.tx else headRemoved l.tx
      discards := satSucc Config.countTop l.discards }

/-- The STOP_REQUEST of a call, with the origin and the wanted time as the call table holds them (R20, R143). -/
def stopItem (c : Call) : Item := .stopRequest c.service c.origin c.wantedAt

/-- A call that waits for its STOP_REQUEST to be queued (R20). -/
def waitsForStop (queue : List Item) (c : Call) : Bool :=
  c.state.saleable && c.stop = .wanted && !(queue.any (Item.isStopFor c.service))

/-- The offers at one offer point, until one is not taken (R20). -/
def Line.offerAll : List Call → Line → Line
  | [], l => l
  | c :: cs, l =>
    match l.offerStop (stopItem c) with
    | some m => Line.offerAll cs m
    | none => l

/-- The calls that wait at an offer point, in order of approach time and service number (R20). -/
def waitingCalls (s : State) : List Call :=
  sortBy (timeThenService approach) (s.calls.active.filter (waitsForStop s.line.urgent))

/-- The call table offers a STOP_REQUEST for each waiting call (R20). -/
def offerStops (s : State) : State := { s with line := Line.offerAll (waitingCalls s) s.line }

/-- Whether an item is a STATUS. -/
def Item.isStatus : Item → Bool
  | .status => true
  | _ => false

/-- A STATUS item is queued (R148). -/
def Line.statusQueued (l : Line) : Bool := l.urgent.any Item.isStatus || l.routine.any Item.isStatus

/-- The frame in progress carries a STATUS (R148). -/
def TxFrame.carriesStatus (f : TxFrame) : Bool :=
  match f.source with
  | .urgentItem .status | .routineItem .status => true
  | _ => false

/-- A STATUS item is offered to the queue the class map gives it (R148). -/
def Line.offerStatus (l : Line) : Line := l.enqueue l.classMap.status .status

/-- What a cause of a STATUS does (R148). -/
def Line.statusCause (l : Line) : Line :=
  if !l.statusQueued then l.offerStatus
  else if l.tx.any fun f => f.carriesStatus && f.queued then { l with statusOwed := true }
  else l

/-- A cause of a STATUS is reported to the line interface (R148). -/
def statusCause (s : State) : State := { s with line := s.line.statusCause }

/-- A re-arm of the day is reported (R23, R148). -/
def reportRearm (s : State) : State :=
  statusCause { s with line := { s.line with
      tableReused := true
      tx := s.line.tx.map fun f => if f.carriesStatus then { f with rearmed := true } else f } }

/-! ## The issue unit (chapter 05) -/

/-- The table hold changes, which latches HOLD_CHANGED (R100). -/
def setHold (h : Hold) (limit : Timer) (s : State) : State :=
  latchV .holdChanged { s with issue := { s.issue with hold := h, limitTimer := limit } }

/-- An ASKED hold is granted when the sale it waited for ends (R102). -/
def grantAsked (s : State) : State :=
  if s.issue.hold = .asked then offerHoldGranted (setHold .held (some Config.holdLimit) s) else s

/-- The pending sale is removed, its lapse timer with it, and an ASKED hold granted (R87, R88, R102). -/
def endSale (s : State) : State := grantAsked { s with issue := { s.issue with sale := none } }

/-- A void for a service number (R89). -/
def voidSale (n : Nat) (s : State) : State :=
  match s.issue.sale with
  | some sale =>
    if sale.state = .quoted && sale.call = some n then
      latchV .quoteVoid { s with issue := { s.issue with sale := some { sale with state := .void } } }
    else s
  | none => s

/-- The low-water test (R96); `crossed` says that it follows a commit that took the stock from 50 or more to below 50. -/
def lowWater (crossed : Bool) (s : State) : State :=
  if crossed || (remaining s.issue.blocks < Config.lowWater && s.issue.askTimer.isNone) then
    let s := enqueue s.line.classMap.serialAsk (.serialAsk (remaining s.issue.blocks)) s
    latchV .serialLow { s with issue := { s.issue with askTimer := some Config.askRepeat } }
  else s

/-! ## Calls (chapters 01 and 02) -/

/-- What R17 does as a call leaves the saleable states: the void, the queued STOP_REQUEST, the acknowledgement timer. -/
def leaveSaleable (n : Nat) (s : State) : State :=
  (removeStop n (voidSale n s)).mapCall n fun c => { c with ackTimer := none }

/-- The ACTIVE calls that an evaluation lapses (R35, R36). -/
def lapsing (s : State) : List Nat :=
  (s.calls.active.filter fun c =>
    c.state.isOpen && evaluated s.line.params s.now c = .lapsed).map fun c => c.service

/-- Every ACTIVE call is evaluated at the time of day, unless the time is UNSET (R35, R37). -/
def evaluateAll (s : State) : State :=
  if s.timeSet then
    (lapsing s).foldl (fun t n => leaveSaleable n t)
      (s.mapActive fun c => { c with state := evaluated s.line.params s.now c })
  else s

/-- Every ACTIVE call is recomputed and evaluated (R38). -/
def recomputeAll (s : State) : State := evaluateAll (s.mapActive recompute)

/-- One call is evaluated (R35). -/
def evaluateCall (n : Nat) (s : State) : State :=
  if s.timeSet then
    let t := s.mapCall n fun c => { c with state := evaluated s.line.params s.now c }
    if (s.call n).any fun c => c.state.isOpen && evaluated s.line.params s.now c = .lapsed then leaveSaleable n t else t
  else s

/-- One call is recomputed and evaluated (R38). -/
def recomputeCall (n : Nat) (s : State) : State := evaluateCall n (s.mapCall n recompute)

/-- The stop state of a call leaves NONE (R19): WANTED before the request cut-off, LATE at or after it. -/
def stopFrom (p : Params) (now : Nat) (o : Origin) (c : Call) : Call :=
  { c with
    stop := if isBefore now (requestCutoff p c) then .wanted else .late
    origin := some o
    wantedAt := some now }

/-- A cause of a stop takes the stop state of this call out of NONE (R19). -/
def takesStop (n : Nat) (s : State) : Bool := (s.call n).any fun c => c.kind = .request && c.stop = .none

/-- A cause of a stop reaches a REQUEST call in stop state NONE; any other call is left as it is (R19). An entry to WANTED
is followed by an offer (R20). -/
def wantStop (n : Nat) (o : Origin) (s : State) : State :=
  if takesStop n s then
    let t := s.mapCall n (stopFrom s.line.params s.now o)
    if (t.call n).any fun c => c.stop = .wanted then offerStops t else t
  else s

/-! ## The link (chapter 06) -/

/-- The frame in progress ends without completing: mark is driven from the next period, LINE_UP standing to the end of this
one, its source is left as it was, and the mark of a STATUS owed is cleared if it carried a STATUS (R108, R116, R117, R119,
R148). -/
def Line.dropFrame (l : Line) : Line :=
  { l with
    tx := none
    statusOwed := if l.tx.any TxFrame.carriesStatus then false else l.statusOwed }

/-- What every change of link state does (R119), and the timers and flags of the state entered (R121 to R125, R148). -/
def Line.enter (k : LinkState) (l : Line) : Line :=
  { l.dropFrame with
    link := k
    urgentThreshold := Config.urgentBase
    routineThreshold := Config.routineBase
    faultRun := 0
    resume := if k = .hunt then false else l.resume
    joinPending := if k = .synced then true else if k = .admitted then false else l.joinPending
    joinTimer := none
    admissionTimer := if k = .synced then some Config.admission else none
    silenceTimer := if k = .admitted then some Config.silence else none
    lostTimer := if k = .lost then some Config.lost else none
    statusTimer := if k = .admitted then some Config.statusPeriod else none }

/-- A change of link state made while the HC7 runs, which latches LINK_STATE (R119). -/
def setLink (k : LinkState) (s : State) : State := latchV .linkState { s with line := s.line.enter k }

/-! ## Rollover (R22, R23, R59, R162) -/

/-- The calls the closing of the day voids: those in SCHEDULED, DUE or ARRIVED (R22). -/
def closing (s : State) : List Nat := (s.calls.active.filter fun c => c.state.saleable).map fun c => c.service

/-- The ending day is closed (R22). -/
def closeDay (s : State) : State :=
  (closing s).foldl (fun t n => leaveSaleable n t)
    (s.mapActive fun c => if c.state.saleable || c.state = .cancelled then { c with state := .lapsed } else c)

/-- The new day is opened from a COMPLETE NEXT bank, or the ending bank is re-armed (R23). -/
def openDay (s : State) : State :=
  if s.calls.nextState = .complete then
    { s with calls := { active := s.calls.next.map Call.cleared, next := [], nextState := .empty } }
  else reportRearm (s.mapActive Call.cleared)

/-- The platform monitor takes a rollover (R162). -/
def markDayCrossed (s : State) : State :=
  if s.platform.state = .settling || s.platform.state = .occupied then
    { s with platform := { s.platform with dayCrossed := true } }
  else s

/-- A rollover carried out by the call table and the platform monitor, the time of day and the day number already those of
the new day (R22, R23, R162). The board is rebuilt by the step the rollover is part of. -/
def rolloverCalls (s : State) : State := markDayCrossed (recomputeAll (openDay (closeDay s)))

/-! ## The platform monitor's reports (chapter 08) -/

/-- The time of a record as an observation carries it: absent if it was made while the time was UNSET (R163). -/
def Stamp.observed (st : Stamp) : Option Nat := if st.isSet then some st.time.sec else none

/-- The time of day recorded now (R153, R155). -/
def stampNow (s : State) : Stamp := { time := s.clock.time, isSet := s.timeSet }

/-- A departure of the named call is reported with a release moment, and the observation offered (R16, R160). -/
def reportDeparture (n : Nat) (release : Stamp) (s : State) : State :=
  if (s.call n).any fun c => c.state = .arrived then
    let t := s.mapCall n fun c => recompute { c with state := .departed, ad := some release.time.sec }
    offerObservation .departure (some n) release.observed (leaveSaleable n t)
  else offerObservation .unmatchedDeparture none release.observed s

/-- Whether a call is a candidate for the occupancy (R157). -/
def matchable (window start : Nat) (c : Call) : Bool :=
  c.state.isOpen && (approach c).any fun t => start ≤ t + window && t ≤ start + window

/-- The distance of a call's approach time from the occupancy start (R157). -/
def distance (start : Nat) (c : Call) : Nat :=
  match approach c with
  | some t => (t - start) + (start - t)
  | none => 0

/-- The order of R157's choice: distance, scheduled approach time, service number. -/
def nearer (start : Nat) (c d : Call) : Bool :=
  let x := distance start c
  let y := distance start d
  x < y || (x = y && (schedApproach c < schedApproach d
    || (schedApproach c = schedApproach d && c.service ≤ d.service)))

/-- The call an occupancy is attributed to (R157). -/
def attributed (s : State) : Option Call :=
  match s.platform.start with
  | some st =>
    if st.isSet && !s.platform.dayCrossed then
      (sortBy (nearer st.time.sec) (s.calls.active.filter (matchable s.line.params.attribution st.time.sec))).head?
    else none
  | none => none

/-- The time an observation of the occupancy start carries (R163). -/
def startObserved (s : State) : Option Nat := s.platform.start.bind Stamp.observed

/-- The occupancy is a STOP (R156, R158): attributed, applied by the call table, observed. The call was chosen among those
in SCHEDULED and DUE in the same operation, so the call table applies it. -/
def decideStop (s : State) : State :=
  let t : State := { s with platform := { s.platform with state := .stopped } }
  match attributed s, s.platform.start with
  | some c, some st =>
    let u := t.mapCall c.service fun d => recompute { d with state := .arrived, aa := some st.time.sec }
    offerObservation .arrival (some c.service) (startObserved s)
      { u with platform := { u.platform with matched := some c.service } }
  | _, _ =>
    offerObservation .unmatchedArrival none (startObserved s)
      { t with platform := { t.platform with matched := none } }

/-- The monitor with its occupancy ended: CLEAR, no timer, no record (R152, R156, R160; log 23). -/
def occupancyOver (m : Platform) : Platform :=
  { m with
    state := .clear
    start := none
    release := none
    matched := none
    settleTimer := none
    stopTimer := none
    standingTimer := none
    releaseTimer := none }

/-- The occupancy is a PASS (R156, R159). -/
def decidePass (s : State) : State :=
  let t : State := { s with platform := occupancyOver s.platform }
  match attributed s, s.platform.start with
  | some c, some st =>
    let u := t.mapCall c.service fun d =>
      recompute { d with state := .departed, passed := true, ad := some st.time.sec }
    offerObservation .pass (some c.service) (startObserved s) (leaveSaleable c.service u)
  | _, _ => offerObservation .pass none (startObserved s) t

/-- The stop ends as a DEPARTURE (R160). -/
def decideDeparture (s : State) : State :=
  let t : State := { s with platform := occupancyOver s.platform }
  match s.platform.release with
  | some st =>
    match s.platform.matched with
    | some n => reportDeparture n st t
    | none => offerObservation .unmatchedDeparture none st.observed t
  | none => t

/-! ## Port requests (chapter 10) -/

/-- A response is placed in a port's buffer, replacing one not collected (R188). -/
def respond (port : Port) (r : Response) (s : State) : State :=
  setPort s port { portOf s port with buffer := some r }

/-- A refusal carries no payload (R188). -/
def refuse (port : Port) (st : Status) (s : State) : State := respond port { status := st, payload := [] } s

/-- OK with a payload. -/
def answer (port : Port) (payload : List Byte) (s : State) : State := respond port { status := .ok, payload := payload } s

/-- SEL has risen on a port: its pin is high, and the framing state is IDLE if the port heeds SEL (R187). -/
def selRises (port : Port) (s : State) : State :=
  let p := portOf s port
  setPort s port
    (if listening s port then { p with selLow := false, framing := .idle, octets := [] } else { p with selLow := false })

/-- A transaction of some whole octets, from the fall of SEL to its rise (R187). A port that is held in reset or unpowered
disregards it (R196, R198). At the rise the request or the collection is taken, on the octets kept; in IDLE, no whole octet
having come, and in DISCARD nothing is. -/
def onTransaction (port : Port) (octets : List Byte) (take : List Byte → State → State) (s : State) : State :=
  if listening s port then
    let p := (portOf s port).selFalls.shiftIn octets
    let t := selRises port (setPort s port p)
    match p.framing with
    | .request | .collection => take p.octets t
    | .idle | .discard => t
  else selRises port s

/-- The first two form checks on the octets kept of `count` that were clocked (R187, R190): the payload where both pass. -/
def keptPayload (kept : List Byte) (count : Nat) (partialOctet : Bool) : Option (List Byte) :=
  match kept with
  | _ :: len :: payload => if !partialOctet && len.toNat ≤ 60 && count = 2 + len.toNat then some payload else none
  | _ => none

/-- A request is taken (R188): the form checks of R190 and R191, then the owning block's rule on the fields read. -/
def onRequest {α : Type} (cmd : Command) (read : List Byte → Option α) (carryOut : α → State → State)
    (port : Port) (req : Request) (s : State) : State :=
  onTransaction port (cmd.code :: req.octets) (fun kept t =>
    match keptPayload kept (1 + req.octets.length) req.partialOctet with
    | none => refuse port .badRequest t
    | some payload =>
      if !cmd.ofPort port then refuse port .wrongPort t
      else match read payload with
        | none => refuse port .badRequest t
        | some fields => carryOut fields t) s

/-! ## Downward messages (chapters 06 and 07) -/

/-- A valid downward frame of these octets has been received: the link is not DARK (R111, R120), and the receiver does not
hold another frame (log 5). -/
def heard (s : State) (addr kind : Byte) (payload : List Byte) : Bool :=
  s.line.link != .dark && rxAdmits s.line.rx (frameBody addr kind payload)

/-- The receiver hears a start symbol in a space that arrives now (R111): the link is not DARK, and 6 marks have gone before. -/
def hearsStart (s : State) : Bool := s.line.link != .dark && s.line.rx.ready

/-- At the first symbol of a downward frame the time base records the local time and the crystal count (R53, R111). -/
def recordStart (c : Clock) : Clock :=
  { c with frameStart := some { localTime := c.time, crystal := c.crystal, disturbed := false } }

/-- A valid downward frame has completed: the receiver waits for the next, and the silence timer is restarted, whatever the
addressee and the kind (R111, R124). -/
def frameDone (s : State) : State :=
  { s with line := { s.line with
      rx := rxClose s.line.rx
      silenceTimer := if s.line.link = .admitted then some Config.silence else s.line.silenceTimer } }

/-- The frame is a broadcast or is addressed to this halt (R127). -/
def forThisHalt (s : State) (addr : Byte) : Bool := addr.toNat = 0 || addr.toNat = s.line.address

/-- The address suits the kind: an addressed kind sent to address 0 is discarded (R127). -/
def addressSuits (s : State) (k : DownKind) (addr : Byte) : Bool :=
  if k.isBroadcast then forThisHalt s addr else addr.toNat = s.line.address && addr.toNat != 0

/-- The frame is taken (R127). -/
def taken (s : State) (k : DownKind) (addr : Byte) : Bool := addressSuits s k addr && k.takenIn s.line.link

/-- A frame is discarded and counted (R128). -/
def countBad (s : State) : State :=
  { s with line := { s.line with badFrames := satSucc Config.countTop s.line.badFrames } }

/-- A malformed frame: BAD_RECORD for the nine kinds answered by LOAD_REPLY, else a bad frame (R136). -/
def onMalformed (k : DownKind) (s : State) : State :=
  match k.loadKind with
  | some l => offerReply l .badRecord none s
  | none => countBad s

/-- A downward message: heard, taken by address and link state, read, and carried out by its owner (R127, R135, R136). -/
def onMessage {α : Type} (k : DownKind) (read : List Byte → Option α) (carryOut : α → State → State)
    (addr : Byte) (payload : List Byte) (s : State) : State :=
  if heard s addr k.code payload then
    if taken s k addr then
      match read payload with
      | none => onMalformed k (frameDone s)
      | some fields => carryOut fields (frameDone s)
    else frameDone s
  else s

end Sys2Proof.Machine
end

