-- ==== Sys2Proof/Machine/TimeBase.lean ====
section
/-! DEFINITION. The time base (chapter 03): CRYSTAL_TICK, ROLLOVER, DOWNWARD_FRAME_START, BEACON, SET_TIME,
HOLDOVER_EXPIRY. -/

namespace Sys2Proof.Machine

/-! ## The crystal -/

/-- A running timer counts one crystal tick; at 0 it has run out (R61, log 2). -/
def countDown (t : Timer) : Timer := t.map fun n => n - 1

/-- The timers of the issue unit count one crystal tick. -/
def tickIssue (i : Issue) : Issue :=
  { i with
    sale := i.sale.map fun s => { s with lapse := s.lapse - 1 }
    limitTimer := countDown i.limitTimer
    askTimer := countDown i.askTimer
    quoteDemand := countDown i.quoteDemand }

/-- The timers of the line interface count one crystal tick. -/
def tickLine (l : Line) : Line :=
  { l with
    joinTimer := countDown l.joinTimer
    admissionTimer := countDown l.admissionTimer
    silenceTimer := countDown l.silenceTimer
    lostTimer := countDown l.lostTimer
    saleAckTimer := countDown l.saleAckTimer
    statusTimer := countDown l.statusTimer }

/-- The timers of the platform monitor count one crystal tick. -/
def tickPlatform (m : Platform) : Platform :=
  { m with
    settleTimer := countDown m.settleTimer
    stopTimer := countDown m.stopTimer
    standingTimer := countDown m.standingTimer
    releaseTimer := countDown m.releaseTimer
    buttonDemand := countDown m.buttonDemand }

/-- The crystal-timed timers of the screen sequencer and the ambient window count one crystal tick. -/
def tickScreen (c : Screen) : Screen :=
  { c with
    readyTimer := countDown c.readyTimer
    idleTimer := countDown c.idleTimer
    retryTimer := countDown c.retryTimer
    window := c.window - 1 }

/-- Every crystal-timed duration counts one tick (R61), and the crystal count rises. -/
def tickTimers (s : State) : State :=
  { s with
    calls := { s.calls with active := s.calls.active.map fun c => { c with ackTimer := countDown c.ackTimer } }
    clock := { s.clock with holdover := countDown s.clock.holdover, crystal := s.clock.crystal + 1 }
    issue := tickIssue s.issue
    line := tickLine s.line
    platform := tickPlatform s.platform
    screen := tickScreen s.screen }

/-- This crystal tick advances the time of day (R51): with a slew deficit, only the second of two does. DESIGN CHOICE
(log 7): the first of the two is the one that does not advance; unsafe. -/
def advances (c : Clock) : Bool := c.slew = 0 || c.slewHalf

/-- The last tick of the service day. -/
def atDayEnd (c : Clock) : Bool := c.time.sec = Config.lastSecond && c.time.tick = 15

/-- The counter one tick on, wrapping past 86,399 s and tick 15 (R51). -/
def nextTime (t : TimeOfDay) : TimeOfDay := TimeOfDay.ofTicks (t.ticks + 1)

/-- The clock at one crystal tick, but for the day number (R51). -/
def tickClock (c : Clock) : Clock :=
  if advances c then { c with time := nextTime c.time, slewHalf := false }
  else { c with slew := c.slew - 1, slewHalf := true }

/-- The clock at this crystal tick raises rollover: a set clock wraps (R59). -/
def wrapsNow (s : State) : Bool := advances s.clock && atDayEnd s.clock && s.timeSet

/-- The time base advances the day number, then reports the rollover (R59). -/
def raiseRollover (s : State) : State := rolloverCalls { s with clock := { s.clock with day := s.clock.day + 1 } }

/-- One crystal tick: the timers, the counter, and the rollover if a set clock wraps (R51, R59). -/
def crystalStep (s : State) : State :=
  let t := tickTimers s
  let u : State := { t with clock := tickClock t.clock }
  if wrapsNow s then rebuild (raiseRollover u) else u

def execCrystalTick (s : State) : Host.Outcome State Fault Refusal := .next (crystalStep s)

/-- ROLLOVER is the crystal tick at which a set clock wraps (R59, log 18). -/
def execRollover (s : State) : Host.Outcome State Fault Refusal :=
  if wrapsNow s then .next (crystalStep s) else .next s

/-! ## Time state -/

/-- TIME_STATE is latched on both ports (R52). -/
def latchTimeState (s : State) : State := latchS .timeState (latchV .timeState s)

/-- The time state becomes LOCKED and the holdover timer starts at 600 s; a change latches TIME_STATE (R52, R55). -/
def lock (s : State) : State :=
  let t : State :=
    { s with clock := { s.clock with timeState := .locked, setMarker := true, holdover := some Config.holdover } }
  if s.clock.timeState = .locked then t else latchTimeState t

def execHoldoverExpiry (s : State) : Host.Outcome State Fault Refusal :=
  if s.clock.timeState = .locked && s.clock.holdover = some 0 then
    .next (rebuild (latchTimeState
      { s with clock := { s.clock with timeState := .holdover, holdover := none } }))
  else .next s

/-! ## Beacons -/

/-- DOWNWARD_FRAME_START (R111): after 6 consecutive marks a space has arrived, which is the start symbol. DESIGN CHOICE
(log 36): it is given before the SYMBOL_PERIOD_END of that space, which then ends the start symbol's period; given after it,
it changes nothing, since that period end has taken the start; unsafe. -/
def execDownwardFrameStart (s : State) : Host.Outcome State Fault Refusal :=
  if hearsStart s then
    .next { s with clock := recordStart s.clock, line := { s.line with rx := s.line.rx.startArrives } }
  else .next s

/-- The record of the frame's first symbol. DESIGN CHOICE (log 6): a beacon is measured by the latest record, and where none
was made for its own frame that is the record left by an earlier frame that was no beacon, or, where there is none at all,
the moment it is taken; unsafe. -/
def startOf (c : Clock) : FrameStart :=
  c.frameStart.getD { localTime := c.time, crystal := c.crystal, disturbed := false }

/-- The clock is stepped or set: a frame under way no longer has a local time that describes it (R53). -/
def disturb (c : Clock) : Clock := { c with frameStart := c.frameStart.map fun f => { f with disturbed := true } }

/-- T_b − L in ticks, reduced by whole days into −691,200..+691,199 (R53). -/
def offset (tb l : TimeOfDay) : Int :=
  ((tb.ticks : Int) - l.ticks + 691200) % Config.dayTicks - 691200

/-- The day number's case and expected value (R60): the beacon belongs to the day before the held day, the day after it, or
the held day; `adjust` is what the held day number is above the beacon's. -/
def dayAdjust (tb : TimeOfDay) (corrected : TimeOfDay) : BitVec 16 :=
  let d : Int := (tb.ticks : Int) - corrected.ticks
  if 16 * 43199 < d then 1
  else if d < -(16 * 43200) then -1
  else 0

/-- The held day number after an applied beacon (R60): it is the beacon's number, adjusted, whether that number was the
expected one or is adopted. -/
def adoptDay (b : BeaconFields) (corrected : TimeOfDay) (s : State) : State :=
  { s with clock := { s.clock with day := b.day + dayAdjust b.time corrected } }

/-- The branch condition store takes the values of a beacon if either differs (R146). -/
def storeCondition (b : BeaconFields) (s : State) : State :=
  if b.condition = s.line.condition && b.textCode = s.line.textCode then s
  else
    rebuild (latchS .condition (latchV .condition
      { s with line := { s.line with condition := b.condition, textCode := b.textCode } }))

/-- A beacon taken in UNSET sets the time (R54). -/
def setByBeacon (b : BeaconFields) (s : State) : State :=
  let gone := s.clock.crystal - (startOf s.clock).crystal
  rebuild (recomputeAll (lock
    { s with clock := { s.clock with
        time := TimeOfDay.ofTicks (b.time.ticks + gone)
        day := b.day
        slew := 0
        slewHalf := false } }))

/-- The clock stepped forward by some ticks; a step past the end of the day raises rollover (R56, R59). -/
def stepForward (ticks : Nat) (s : State) : State :=
  let total := s.clock.time.ticks + ticks
  let t : State := { s with clock := { disturb s.clock with
      time := TimeOfDay.ofTicks total, slew := 0, slewHalf := false } }
  if Config.dayTicks ≤ total then raiseRollover t else t

/-- A slew: the deficit is the number of ticks by which the clock is ahead (R57). -/
def startSlew (ticks : Nat) (s : State) : State :=
  { s with clock := { s.clock with slew := ticks, slewHalf := false } }

/-- A disputed beacon (R56). -/
def dispute (s : State) : State :=
  statusCause { s with clock := { s.clock with disputes := satSucc 255 s.clock.disputes } }

/-- An applied beacon, once the clock is corrected (R55, R60); the forward step's deadlines are then evaluated (R37). -/
def afterCorrection (b : BeaconFields) (corrected : TimeOfDay) (stepped : Bool) (s : State) : State :=
  let t := lock (adoptDay b corrected s)
  if stepped then rebuild (evaluateAll t)
  else if s.clock.timeState = .holdover then rebuild t
  else t

/-- A beacon taken with the time set is classified by its offset (R55, R56). -/
def measureBeacon (b : BeaconFields) (s : State) : State :=
  let l := (startOf s.clock).localTime
  let off := offset b.time l
  if off < -14400 || 14400 < off then dispute s
  else if 1 < off then
    afterCorrection b (TimeOfDay.ofTicks (l.ticks + off.toNat)) true (stepForward off.toNat s)
  else if off < -1 then afterCorrection b l false (startSlew (-off).toNat s)
  else afterCorrection b l false (startSlew 0 s)

/-- The time of a beacon (R53): stale, setting an unset clock, or measured. -/
def beaconTime (b : BeaconFields) (s : State) : State :=
  let t : State :=
    if (startOf s.clock).disturbed then s
    else if s.clock.timeState = .unset then setByBeacon b s
    else measureBeacon b s
  { t with clock := { t.clock with frameStart := none } }

/-- A valid beacon moves the link (R121, R125). -/
def beaconLink (s : State) : State :=
  match s.line.link with
  | .hunt => setLink .synced s
  | .lost => if s.line.resume then setLink .admitted s else setLink .synced s
  | .dark | .synced | .admitted => s

/-- A BEACON taken (R53, R121, R146). -/
def takeBeacon (b : BeaconFields) (s : State) : State := beaconTime b (storeCondition b (beaconLink s))

def execBeacon (addr : Byte) (payload : List Byte) (s : State) : Host.Outcome State Fault Refusal :=
  .next (onMessage .beacon readBeacon takeBeacon addr payload s)

/-! ## SET_TIME -/

/-- The calls a SET_TIME recomputes: every call if the time was UNSET, else every call not in LAPSED (R37, R62). -/
def recomputeForSet (wasSet : Bool) (s : State) : State :=
  evaluateAll (s.mapActive fun c => if wasSet && c.state = .lapsed then c else recompute c)

/-- SET_TIME (R62). DESIGN CHOICE (log 39): the LOAD_REPLY (R137) is offered last, after the lapses of the evaluation have
removed their STOP_REQUESTs (R37); unsafe where the class map has LOAD_REPLY urgent. -/
def takeSetTime (f : Nat × BitVec 16) (s : State) : State :=
  if s.issue.hold = .held then
    let t := lock { s with clock := { disturb s.clock with
        time := { sec := f.1, tick := 0 }, day := f.2, slew := 0, slewHalf := false } }
    offerReply .time .accepted none (rebuild (recomputeForSet s.timeSet t))
  else offerReply .time .notHeld none s

def execSetTime (addr : Byte) (payload : List Byte) (s : State) : Host.Outcome State Fault Refusal :=
  .next (onMessage .setTime readSetTime takeSetTime addr payload s)

end Sys2Proof.Machine
end

