-- ==== Sys2Proof/Machine/LineDown.lean ====
section
/-! DEFINITION. Downward frames and the messages that are not loads: BAD_FRAME, FRAME_DISCARDED, DELAY, CANCEL, REINSTATE,
RESTART, ADMIT, STOP_ACK, SALE_ACK, SERIAL_GRANT, HOLD, RELEASE (chapters 01, 02, 05, 06, 07). -/

namespace Sys2Proof.Machine

/-- A frame discarded as bad (R111). -/
def execBadFrame (cause : BadCause) (s : State) : Host.Outcome State Fault Refusal :=
  if s.line.link != .dark && rxAdmitsBad s.line.rx cause then
    .next (countBad { s with line := { s.line with rx := rxClose s.line.rx } })
  else .next s

/-- A valid frame that is not taken (R127): for another address, of an undefined kind, of an addressed kind sent to
address 0, or not taken in the link state. A frame that is taken is not this event (log 1). -/
def execFrameDiscarded (addr kind : Byte) (payload : List Byte) (s : State) : Host.Outcome State Fault Refusal :=
  if heard s addr kind payload then
    match DownKind.ofCode kind with
    | some k => if taken s k addr then .next s else .next (frameDone s)
    | none => if forThisHalt s addr then .next (countBad (frameDone s)) else .next (frameDone s)
  else .next s

/-! ## DELAY (R26, R27) -/

/-- The notice is stored: none is stored, or its report time is equal to or later than the stored one's (R27). -/
def replacesNotice (new : DelayNotice) : Option DelayNotice → Bool
  | none => true
  | some old => old.report ≤ new.report

/-- DELAY (R26, R27). -/
def takeDelay (f : DelayFields) (s : State) : State :=
  if (s.call f.service).any fun c =>
      (c.state.isOpen || c.state = .arrived) && replacesNotice f.notice c.notice then
    rebuild (recomputeCall f.service (s.mapCall f.service fun c => { c with notice := some f.notice }))
  else s

def execDelay (addr : Byte) (payload : List Byte) (s : State) : Host.Outcome State Fault Refusal :=
  .next (onMessage .delay readDelay takeDelay addr payload s)

/-! ## CANCEL and REINSTATE -/

/-- CANCEL (R14, R17). -/
def takeCancel (n : Nat) (s : State) : State :=
  if (s.call n).any fun c => c.state.isOpen then
    rebuild (leaveSaleable n (s.mapCall n fun c => { c with state := .cancelled }))
  else s

def execCancel (addr : Byte) (payload : List Byte) (s : State) : Host.Outcome State Fault Refusal :=
  .next (onMessage .cancel readService takeCancel addr payload s)

/-- The call of a REINSTATE: SCHEDULED, a stop state of WANTED or SENT becoming WANTED (R15). -/
def reinstated (c : Call) : Call :=
  { c with state := .scheduled, stop := if c.stop = .sent then .wanted else c.stop }

/-- REINSTATE (R15): the call is recomputed and evaluated, and a stop it wanted is offered (R20). -/
def takeReinstate (n : Nat) (s : State) : State :=
  if (s.call n).any fun c => c.state = .cancelled then
    let t := recomputeCall n (s.mapCall n reinstated)
    rebuild (if (t.call n).any fun c => c.stop = .wanted then offerStops t else t)
  else s

def execReinstate (addr : Byte) (payload : List Byte) (s : State) : Host.Outcome State Fault Refusal :=
  .next (onMessage .reinstate readService takeReinstate addr payload s)

/-! ## RESTART and ADMIT -/

/-- RESTART (R126). -/
def takeRestart (_ : Unit) (s : State) : State :=
  match s.line.link with
  | .synced | .admitted | .lost => setLink .hunt s
  | .dark | .hunt => s

def execRestart (addr : Byte) (payload : List Byte) (s : State) : Host.Outcome State Fault Refusal :=
  .next (onMessage .restart readNothing takeRestart addr payload s)

/-- ADMIT (R123, R130). -/
def takeAdmit (f : AdmitFields) (s : State) : State :=
  let t := if s.line.link = .synced then setLink .admitted s else s
  { t with line := { t.line with resume := f.resume, classMap := f.classMap } }

def execAdmission (addr : Byte) (payload : List Byte) (s : State) : Host.Outcome State Fault Refusal :=
  .next (onMessage .admission readAdmit takeAdmit addr payload s)

/-! ## Acknowledgements -/

/-- STOP_ACK (R21). -/
def takeStopAck (n : Nat) (s : State) : State :=
  if (s.call n).any fun c => c.kind = .request && (c.stop = .wanted || c.stop = .sent) then
    rebuild (removeStop n (s.mapCall n fun c => { c with stop := .confirmed, ackTimer := none }))
  else s

def execStopAck (addr : Byte) (payload : List Byte) (s : State) : Host.Outcome State Fault Refusal :=
  .next (onMessage .stopAck readService takeStopAck addr payload s)

/-- The journal holds a record that has been sent (R138). -/
def anySent (journal : List Ticket) (highest : Nat) : Bool := journal.any fun t => t.sequence ≤ highest

/-- The cursor after records have been removed at the head (R138). -/
def cursorAfterRemoval (journal : List Ticket) (cursor : Option Nat) : Option Nat :=
  cursor.bind fun n =>
    if journal.any fun t => t.sequence = n then some n else journal.head?.map Ticket.sequence

/-- SALE_ACK (R141): ignored below the head; lowered to the highest sent; the records up to it are removed. -/
def takeSaleAck (n : Nat) (s : State) : State :=
  match s.issue.journal with
  | [] => s
  | head :: _ =>
    if n < head.sequence then s
    else
      let kept := s.issue.journal.filter fun t => min n s.line.highestSent < t.sequence
      { s with
        issue := { s.issue with journal := kept }
        line := { s.line with
          cursor := cursorAfterRemoval kept s.line.cursor
          saleAckTimer := if anySent kept s.line.highestSent then s.line.saleAckTimer else none } }

def execSaleAck (addr : Byte) (payload : List Byte) (s : State) : Host.Outcome State Fault Refusal :=
  .next (onMessage .saleAck readSaleAck takeSaleAck addr payload s)

/-! ## SERIAL_GRANT, HOLD and RELEASE -/

/-- Two ranges of serials, given by first serial and count, intersect. -/
def rangesMeet (a n b m : Nat) : Bool := a < b + m && b < a + n

/-- The outcome of a normalised grant (R95). -/
def grantOutcome (i : Issue) (first count : Nat) : LoadOutcome :=
  if Config.serialBlocks ≤ i.blocks.length then .listFull
  else if i.blocks.any fun b => rangesMeet first count b.next b.count then .overlap
  else if i.journal.any fun t => first ≤ t.serial && t.serial < first + count then .reissue
  else .accepted

/-- SERIAL_GRANT (R95). -/
def takeGrant (f : Nat × Nat) (s : State) : State :=
  let o := grantOutcome s.issue f.1 f.2
  let t : State :=
    if o = .accepted then
      { s with issue := { s.issue with blocks := s.issue.blocks ++ [{ first := f.1, next := f.1, count := f.2 }] } }
    else s
  offerReply .serialGrant o (some f.1) t

def execSerialGrant (addr : Byte) (payload : List Byte) (s : State) : Host.Outcome State Fault Refusal :=
  .next (onMessage .serialGrant readGrant takeGrant addr payload s)

/-- HOLD (R100). -/
def takeHold (_ : Unit) (s : State) : State :=
  match s.issue.hold with
  | .free =>
    if s.issue.sale.isSome then setHold .asked none s
    else offerHoldGranted (setHold .held (some Config.holdLimit) s)
  | .asked => s
  | .held => offerHoldGranted s

def execHold (addr : Byte) (payload : List Byte) (s : State) : Host.Outcome State Fault Refusal :=
  .next (onMessage .hold readNothing takeHold addr payload s)

/-- RELEASE of the control point (R101). -/
def takeRelease (_ : Unit) (s : State) : State :=
  match s.issue.hold with
  | .free => s
  | .asked => setHold .free none s
  | .held => offerHoldEnded .released (setHold .free none s)

def execReleaseMessage (addr : Byte) (payload : List Byte) (s : State) : Host.Outcome State Fault Refusal :=
  .next (onMessage .release readNothing takeRelease addr payload s)

end Sys2Proof.Machine
end

