-- ==== Sys2Proof/Machine/LineLoads.lean ====
section
/-! DEFINITION. The loads: LOAD_CALL, LOAD_CLEAR, LOAD_END (chapter 01), the fare loads (chapter 04), LOAD_PARAMS
(chapter 07). -/

namespace Sys2Proof.Machine

/-! ## The call table -/

/-- The outcome of a normalised LOAD_CALL (R7). -/
def loadCallOutcome (s : State) (f : LoadCallFields) : LoadOutcome :=
  let bank := if f.bank = 0 then s.calls.active else s.calls.next
  if 1 < f.bank then .badRecord
  else if f.bank = 0 && s.issue.hold != .held then .notHeld
  else if !f.record.timesOk then .badRecord
  else if (bankFind f.record.service bank).isSome || bank.length < Config.bankSize then .accepted
  else .bankFull

/-- A record as it enters a bank: live fields cleared, EA and ED computed at once (R4). -/
def freshCall (r : Scheduled) : Call := recompute { toScheduled := r, toLive := Live.cleared }

/-- The record enters NEXT with its live fields cleared, and the bank is LOADING (R8). -/
def loadNext (r : Scheduled) (s : State) : State :=
  { s with calls := { s.calls with next := bankPut (freshCall r) s.calls.next, nextState := .loading } }

/-- The record is added to ACTIVE with its live fields cleared, and evaluated (R9). -/
def addActive (r : Scheduled) (s : State) : State :=
  evaluateCall r.service
    { s with calls := { s.calls with active := bankPut (freshCall r) s.calls.active } }

/-- The stop state of a call whose kind a load has made STOPS (R10). -/
def stopCleared (c : Call) : Call := { c with stop := .none, origin := none, wantedAt := none, ackTimer := none }

/-- What a change of kind does, once the call has been recomputed and evaluated (R10, log 11). -/
def changeKind (old : CallKind) (r : Scheduled) (s : State) : State :=
  if old = .request && r.kind = .stops then removeStop r.service (s.mapCall r.service stopCleared)
  else if old = .stops && r.kind = .request
      && ((s.call r.service).any fun c => 0 < c.sold && c.state.saleable) then
    wantStop r.service .ticket s
  else s

/-- The scheduled fields of an ACTIVE call are replaced, its live fields kept (R10). -/
def replaceActive (old : Call) (r : Scheduled) (s : State) : State :=
  changeKind old.kind r (recomputeCall r.service (s.mapCall r.service fun c => { c with toScheduled := r }))

/-- An accepted LOAD_CALL is carried out (R8 to R10). -/
def carryLoadCall (f : LoadCallFields) (s : State) : State :=
  if f.bank = 0 then
    match s.call f.record.service with
    | some old => rebuild (replaceActive old f.record s)
    | none => rebuild (addActive f.record s)
  else loadNext f.record s

/-- LOAD_CALL (R7). DESIGN CHOICE (log 39): a STOP_REQUEST that the load wants (R10) is offered before the load's own
LOAD_REPLY (R137); unsafe where the class map has LOAD_REPLY urgent. -/
def takeLoadCall (f : LoadCallFields) (s : State) : State :=
  let o := loadCallOutcome s f
  offerReply .call o (some f.record.service) (if o = .accepted then carryLoadCall f s else s)

def execLoadCall (addr : Byte) (payload : List Byte) (s : State) : Host.Outcome State Fault Refusal :=
  .next (onMessage .loadCall readLoadCall takeLoadCall addr payload s)

/-- LOAD_CLEAR (R11). -/
def takeLoadClear (_ : Unit) (s : State) : State :=
  offerReply .clear .accepted none { s with calls := { s.calls with next := [], nextState := .empty } }

def execLoadClear (addr : Byte) (payload : List Byte) (s : State) : Host.Outcome State Fault Refusal :=
  .next (onMessage .loadClear readNothing takeLoadClear addr payload s)

/-- LOAD_END (R12); the reference is the number of records in NEXT (R137). -/
def takeLoadEnd (n : Nat) (s : State) : State :=
  if n = s.calls.next.length then
    offerReply .ending .accepted (some s.calls.next.length) { s with calls := { s.calls with nextState := .complete } }
  else offerReply .ending .countMismatch (some s.calls.next.length) s

def execLoadEnd (addr : Byte) (payload : List Byte) (s : State) : Host.Outcome State Fault Refusal :=
  .next (onMessage .loadEnd readLoadEnd takeLoadEnd addr payload s)

/-! ## The fare table -/

/-- The destination list with an entry put in the place of its code (R67). -/
def putDest (e : Nat × Nat) : List (Nat × Nat) → List (Nat × Nat)
  | [] => [e]
  | q :: qs =>
    if e.1 < q.1 then e :: q :: qs
    else if e.1 = q.1 then e :: qs
    else q :: putDest e qs

/-- The zone count of a destination (R67). -/
def zoneOf (dests : List (Nat × Nat)) (code : Nat) : Option Nat := (dests.find? fun q => q.1 = code).map Prod.snd

/-- The destination list after an accepted LOAD_FARE_DEST (R73). -/
def loadDest (code zones : Nat) (dests : List (Nat × Nat)) : List (Nat × Nat) :=
  if zones = 0 then dests.filter fun q => q.1 ≠ code else putDest (code, zones) dests

/-- The outcome of a clamped LOAD_FARE_DEST (R73). -/
def fareDestOutcome (s : State) (code zones : Nat) : LoadOutcome :=
  if s.issue.hold != .held then .notHeld
  else if zones = 0 || (zoneOf s.fares.dests code).isSome || s.fares.dests.length < Config.fareDestinations then .accepted
  else .tableFull

/-- LOAD_FARE_DEST (R73). -/
def takeFareDest (f : Nat × Nat) (s : State) : State :=
  let o := fareDestOutcome s f.1 f.2
  offerReply .fareDest o (some f.1)
    (if o = .accepted then { s with fares := { s.fares with dests := loadDest f.1 f.2 s.fares.dests } } else s)

def execLoadFareDest (addr : Byte) (payload : List Byte) (s : State) : Host.Outcome State Fault Refusal :=
  .next (onMessage .loadFareDest readFareDest takeFareDest addr payload s)

/-- LOAD_FARE_PRICE (R74). -/
def takeFarePrice (b : PriceBlock) (s : State) : State :=
  if s.issue.hold = .held then offerReply .farePrice .accepted none { s with fares := { s.fares with block := b } }
  else offerReply .farePrice .notHeld none s

def execLoadFarePrice (addr : Byte) (payload : List Byte) (s : State) : Host.Outcome State Fault Refusal :=
  .next (onMessage .loadFarePrice readFarePrice takeFarePrice addr payload s)

/-- LOAD_CONCESSION (R75). -/
def takeConcession (f : ConcessionFields) (s : State) : State :=
  if s.issue.hold != .held then offerReply .concession .notHeld (some f.code) s
  else if f.code = 0 then offerReply .concession .badRecord (some f.code) s
  else
    offerReply .concession .accepted (some f.code)
      { s with fares := { s.fares with slots := s.fares.slots.set f.code f.slot } }

def execLoadConcession (addr : Byte) (payload : List Byte) (s : State) : Host.Outcome State Fault Refusal :=
  .next (onMessage .loadConcession readConcession takeConcession addr payload s)

/-! ## The halt parameters -/

/-- LOAD_PARAMS (R145): the store is replaced, every ACTIVE call recomputed and evaluated, the level recomputed (R182), the
board rebuilt and demand evaluated (R176). DESIGN CHOICE (log 39): the LOAD_REPLY (R137) is offered last, after the lapses
of the evaluation have removed their STOP_REQUESTs (R38); unsafe where the class map has LOAD_REPLY urgent. -/
def takeParams (p : Params) (s : State) : State :=
  offerReply .params .accepted none
    (rebuild (relevel (recomputeAll { s with line := { s.line with params := p } })))

def execLoadParams (addr : Byte) (payload : List Byte) (s : State) : Host.Outcome State Fault Refusal :=
  .next (onMessage .loadParams readParams takeParams addr payload s)

end Sys2Proof.Machine
end

