-- ==== Sys2Proof/Machine/Fares.lean ====
section
/-! DEFINITION. The fare computation (chapter 04, R76 to R80) and the checks the fare unit answers at QUOTE. -/

namespace Sys2Proof.Machine

/-- The concession slot of a code, where it is defined (R70). -/
def slotOf (f : FareTable) (code : Nat) : Option Concession := (f.slots.getD code none)

/-- A time of day lies in the peak window (R69). -/
def inPeak (b : PriceBlock) (t : Nat) : Bool := b.peakStart ≤ t && t < b.peakEnd

/-- The peak test fails: a DAY_RETURN whose test time lies in the window (R76). -/
def peakFails (b : PriceBlock) (k : TicketKind) (t : Nat) : Bool := k = .dayReturn && inPeak b t

/-- The kind percentage k (R77). -/
def kindPercent (b : PriceBlock) : TicketKind → Nat
  | .single => 100
  | .ret => b.ret
  | .dayReturn => b.ret * (100 - b.off) / 100

/-- The price of a zone count 1..12 (R68). -/
def zonePrice (b : PriceBlock) (z : Nat) : Nat := b.zones.getD (z - 1) 0

/-- Gross fare g (R78). -/
def gross (b : PriceBlock) (z : Nat) (k : TicketKind) : Nat := zonePrice b z * kindPercent b k

/-- Fare after concession h (R78). -/
def afterConcession (b : PriceBlock) (z : Nat) (k : TicketKind) (c : Concession) : Nat := gross b z k * (100 - c.discount)

/-- The fare rounded to a whole multiple of 10 minor units (R79). -/
def roundFare (h : Nat) : Nat := (h + 50000) / 100000 * 10

/-- The fare: the rounded fare or the concession minimum, whichever is larger (R80). -/
def fareOf (b : PriceBlock) (z : Nat) (k : TicketKind) (c : Concession) : Nat :=
  max (roundFare (afterConcession b z k c)) c.minimum

end Sys2Proof.Machine
end

