-- ==== Sys2Proof/Machine/LineUp.lean ====
section
/-! DEFINITION. The upward line: access, frames in progress, symbols, link timers, journal drain, STATUS period
(chapters 06 and 07). -/

namespace Sys2Proof.Machine

/-! ## Starting a frame (R114, R115) -/

/-- The source of the frame that a symbol boundary starts, if it starts one (R114, R115). -/
def nextSource (l : Line) : Option TxSource :=
  match l.link with
  | .synced => if l.joinPending && l.urgentThreshold ≤ l.idleCount then some .join else none
  | .admitted =>
    match l.urgent with
    | i :: _ => if l.urgentThreshold ≤ l.idleCount then some (.urgentItem i) else none
    | [] =>
      if l.routineThreshold ≤ l.idleCount then
        match l.routine, l.cursor with
        | i :: _, none => some (.routineItem i)
        | i :: _, some n => if l.turn = .queue then some (.routineItem i) else some (.sale n)
        | [], some n => some (.sale n)
        | [], none => none
      else none
  | .dark | .hunt | .lost => none

/-- The source is an item of a queue. -/
def TxSource.isItem : TxSource → Bool
  | .urgentItem _ | .routineItem _ => true
  | .join | .sale _ => false

/-- The frame in progress of a source, its content taken as the frame starts (R114, R149). -/
def startFrame (src : TxSource) (s : State) : TxFrame where
  source := src
  queued := src.isItem
  octets := sourceBody s src
  rest := frameSymbols (sourceBody s src)
  echo := .equal
  reused := s.line.tableReused
  rearmed := false

/-- The symbol a halt drives in the period that a boundary opens: the next one of the frame in progress, and mark where it
sends none, its frame having ended or met a contention loss or a line fault (R108, R116, R117). -/
def symbolToDrive : Option TxFrame → Symbol
  | some f => match f.echo, f.rest with
    | .equal, x :: _ => x
    | _, _ => .mark
  | none => .mark

/-- UPWARD_FRAME_START (R114): at a symbol boundary the frame begins, and LINE_UP carries its start symbol (R108). -/
def execUpwardFrameStart (s : State) : Host.Outcome State Fault Refusal :=
  match s.line.tx, nextSource s.line with
  | none, some src =>
    let tx := some (startFrame src s)
    .next { s with line := { s.line with tx := tx, up := symbolToDrive tx } }
  | _, _ => .next s

/-! ## Symbols (R108, R112) -/

/-- The output LINE_UP (R108). It changes at symbol boundaries and at a full reset only, so a symbol whose frame is given up
within its period is driven to the end of that period (R116, R117, R119). -/
def lineUp (s : State) : Symbol := s.line.up

/-- The frame in progress compares the symbol it sent with the echo (R116, R117). -/
def echoFrame (e : Symbol) (f : TxFrame) : TxFrame :=
  match f.echo, f.rest with
  | .equal, x :: rest =>
    if x = e then { f with rest := rest }
    else if x = .mark then { f with echo := .contention }
    else { f with echo := .fault }
  | _, _ => f

/-- The idle count at the end of a period (R112). -/
def idleAfter (n : Nat) : Symbol → Nat
  | .mark => satSucc 255 n
  | .space => 0

/-- SYMBOL_PERIOD_END (R108, R112, R111, R116, R117). A space that the receiver takes as a start symbol, no DOWNWARD_FRAME_START
having been given for it, has its time recorded here (log 36). -/
def execSymbolPeriodEnd (message echo : Symbol) (s : State) : Host.Outcome State Fault Refusal :=
  let tx := s.line.tx.map (echoFrame echo)
  .next { s with
    clock := if message = .space && hearsStart s then recordStart s.clock else s.clock
    line := { s.line with
      idleCount := idleAfter s.line.idleCount echo
      rx := if s.line.link = .dark then s.line.rx else rxSymbol s.line.rx message
      tx := tx
      up := symbolToDrive tx } }

/-- THRESHOLD_RETURN (R113): a raised threshold returns to base once the idle count has reached the raised value. -/
def execThresholdReturn (s : State) : Host.Outcome State Fault Refusal :=
  .next { s with line := { s.line with
    urgentThreshold :=
      if s.line.urgentThreshold = Config.urgentRaised && Config.urgentRaised ≤ s.line.idleCount then Config.urgentBase
      else s.line.urgentThreshold
    routineThreshold :=
      if s.line.routineThreshold = Config.routineRaised && Config.routineRaised ≤ s.line.idleCount then Config.routineBase
      else s.line.routineThreshold } }

/-! ## The end of a frame (R116 to R118) -/

/-- CONTENTION_LOSS (R116). -/
def execContentionLoss (s : State) : Host.Outcome State Fault Refusal :=
  if s.line.tx.any fun f => f.echo = .contention then
    .next { s with line := { s.line.dropFrame with contentions := satSucc Config.countTop s.line.contentions } }
  else .next s

/-- The link after a line fault (R117): the third consecutive fault moves it. -/
def faultLink (s : State) : State :=
  if 3 ≤ s.line.faultRun then
    match s.line.link with
    | .admitted => setLink .lost s
    | .synced => setLink .hunt s
    | .dark | .hunt | .lost => s
  else s

/-- LINE_FAULT (R117). -/
def execLineFault (s : State) : Host.Outcome State Fault Refusal :=
  if s.line.tx.any fun f => f.echo = .fault then
    .next (faultLink { s with line := { s.line.dropFrame with
      faults := satSucc Config.countTop s.line.faults, faultRun := s.line.faultRun + 1 } })
  else .next s

/-- The class of a frame (R118). -/
def TxSource.isUrgent : TxSource → Bool
  | .join | .urgentItem _ => true
  | .routineItem _ | .sale _ => false

/-- The completion of a STATUS frame: the flag it carried is cleared unless a re-arm came meanwhile, and a STATUS owed is
offered where none is then queued (R133, R148). -/
def Line.statusSent (f : TxFrame) (l : Line) : Line :=
  let m : Line := { l with
    tableReused := if f.reused && !f.rearmed then false else l.tableReused
    statusOwed := false }
  if l.statusOwed && !m.statusQueued then m.offerStatus else m

/-- The completion of a STATUS frame is reported to the STATUS record (R133, R148). -/
def statusSent (f : TxFrame) (s : State) : State := { s with line := s.line.statusSent f }

/-- The call whose STOP_REQUEST has been sent (R21). -/
def markSent (c : Call) : Call := { c with stop := .sent, ackTimer := some Config.stopAck }

/-- The completion of an item's frame is reported to its owner (R118, R133): a STOP_REQUEST still queued makes its call
SENT (R21), a STATUS goes to the STATUS record, the others need no report. -/
def itemSent (f : TxFrame) (i : Item) (s : State) : State :=
  match i with
  | .stopRequest n _ _ => if f.queued then rebuild (s.mapCall n markSent) else s
  | .status => statusSent f s
  | .observation _ _ _ | .holdGranted | .holdEnded _ | .serialAsk _ | .loadReply _ _ _ => s

/-- The record after the one of a sequence number, if the journal holds one (R139). -/
def cursorAfter (journal : List Ticket) (n : Nat) : Option Nat :=
  if journal.any fun t => t.sequence = n + 1 then some (n + 1) else none

/-- The completion of a SALE frame (R139). -/
def saleSent (n : Nat) (s : State) : State :=
  let highest := max s.line.highestSent n
  { s with line := { s.line with
      highestSent := highest
      cursor := if s.line.cursor = some n then cursorAfter s.issue.journal n else s.line.cursor
      saleAckTimer := if anySent s.issue.journal highest then some Config.saleAck else none
      turn := .queue } }

/-- The source of a completed frame is acted on (R118, R133, R115): an urgent departure is followed by the offers of R20.
DESIGN CHOICE (log 38): a STATUS owed that a STATUS of the urgent queue makes way for is offered before them; unsafe. -/
def sourceSent (f : TxFrame) (s : State) : State :=
  match f.source with
  | .join => { s with line := { s.line with joinPending := false, joinTimer := some Config.joinInterval } }
  | .urgentItem i =>
    if f.queued then offerStops (itemSent f i { s with line := { s.line with urgent := s.line.urgent.tail } })
    else itemSent f i s
  | .routineItem i =>
    let t : State := { s with line := { s.line with turn := .journal } }
    itemSent f i (if f.queued then { t with line := { t.line with routine := t.line.routine.tail } } else t)
  | .sale n => saleSent n s

/-- The threshold of the class of a completed frame is raised (R113), and the consecutive fault run ends (R117). -/
def raiseThreshold (src : TxSource) (s : State) : State :=
  { s with line := { s.line with
      tx := none
      faultRun := 0
      urgentThreshold := if src.isUrgent then Config.urgentRaised else s.line.urgentThreshold
      routineThreshold := if src.isUrgent then s.line.routineThreshold else Config.routineRaised } }

/-- FRAME_COMPLETE (R118): the last symbol has been sent and echoed equal. -/
def execFrameComplete (s : State) : Host.Outcome State Fault Refusal :=
  match s.line.tx with
  | some f =>
    if f.echo = .equal && f.rest = [] then .next (sourceSent f (raiseThreshold f.source s)) else .next s
  | none => .next s

/-! ## Timers of the line interface -/

/-- The acknowledgement timer of a call runs out (R21). -/
def stopAckExpired (c : Call) : Call := { c with stop := .wanted, ackTimer := none }

/-- STOP_ACK_TIMEOUT (R21). -/
def execStopAckTimeout (n : Nat) (s : State) : Host.Outcome State Fault Refusal :=
  if (s.call n).any fun c => c.stop = .sent && c.ackTimer = some 0 then
    .next (rebuild (offerStops (s.mapCall n stopAckExpired)))
  else .next s

/-- ACK_TIMER_EXPIRY (R140). -/
def execAckTimerExpiry (s : State) : Host.Outcome State Fault Refusal :=
  if s.line.saleAckTimer = some 0 then
    .next { s with line := { s.line with
      cursor := s.issue.journal.head?.map Ticket.sequence, saleAckTimer := none } }
  else .next s

/-- JOIN_TIMER_EXPIRY (R122). -/
def execJoinTimerExpiry (s : State) : Host.Outcome State Fault Refusal :=
  if s.line.link = .synced && s.line.joinTimer = some 0 then
    .next { s with line := { s.line with joinPending := true, joinTimer := none } }
  else .next s

/-- ADMISSION_TIMEOUT (R122). -/
def execAdmissionTimeout (s : State) : Host.Outcome State Fault Refusal :=
  if s.line.link = .synced && s.line.admissionTimer = some 0 then .next (setLink .hunt s) else .next s

/-- SILENCE_TIMEOUT (R124). -/
def execSilenceTimeout (s : State) : Host.Outcome State Fault Refusal :=
  if s.line.link = .admitted && s.line.silenceTimer = some 0 then .next (setLink .lost s) else .next s

/-- LOST_TIMEOUT (R125). -/
def execLostTimeout (s : State) : Host.Outcome State Fault Refusal :=
  if s.line.link = .lost && s.line.lostTimer = some 0 then .next (setLink .hunt s) else .next s

/-- STATUS_PERIOD (R148). -/
def execStatusPeriod (s : State) : Host.Outcome State Fault Refusal :=
  if s.line.link = .admitted && s.line.statusTimer = some 0 then
    .next (statusCause { s with line := { s.line with statusTimer := some Config.statusPeriod } })
  else .next s

end Sys2Proof.Machine
end

