-- ==== Sys2Proof/Machine/VendingPort.lean ====
section
/-! DEFINITION. The requests of the vending port, those of both ports, and the transactions that are no known request
(chapters 05 and 10): TIME, CALLS, QUOTE, COMMIT, RELEASE, SALES_STATE, NOTICES, COLLECTION, unknown commands. -/

namespace Sys2Proof.Machine

/-- TIME (R63). -/
def carryTime (port : Port) (_ : Unit) (s : State) : State := answer port (timeBytes s.clock) s

def execTime (port : Port) (req : Request) (s : State) : Host.Outcome State Fault Refusal :=
  .next (onRequest .time readNothing (carryTime port) port req s)

/-! ## CALLS -/

/-- A call that CALLS lists for a destination (R91). -/
def listed (p : Params) (now dest : Nat) (c : Call) : Bool :=
  c.state.saleable && c.sd.isSome && c.served.contains dest && isBefore now (salesCutoff p c)

/-- The calls CALLS returns: up to 8, by ED and service number; none while the time is UNSET (R91). -/
def callsList (s : State) (dest : Nat) : List Call :=
  if s.timeSet then
    (sortBy (timeThenService fun c => c.ed) (s.calls.active.filter (listed s.line.params s.now dest))).take Config.callsEntries
  else []

/-- CALLS (R91, R202). -/
def carryCalls (port : Port) (dest : Nat) (s : State) : State :=
  let cs := callsList s dest
  answer port (BitVec.ofNat 8 cs.length :: cs.flatMap (callsEntry s.line.params)) s

def execCalls (port : Port) (req : Request) (s : State) : Host.Outcome State Fault Refusal :=
  .next (onRequest .calls readCalls (carryCalls port) port req s)

/-! ## QUOTE -/

/-- The call checks of a call-bound quote, the first refusal that applies (R83). -/
def callChecks (s : State) (dest n : Nat) : Option Status :=
  if s.line.condition = .suspended then some .suspended
  else match s.call n with
    | none => some .unknownCall
    | some c =>
      if c.sd.isNone then some .unknownCall
      else if !c.state.saleable then some .callGone
      else if !c.served.contains dest then some .notServed
      else if !isBefore s.now (salesCutoff s.line.params c) then some .tooLate
      else if c.kind = .request && c.stop = .none && !isBefore s.now (requestCutoff s.line.params c) then some .tooLate
      else none

/-- The peak test time: SD of the call, or now for an open ticket (R76). -/
def peakTime (s : State) (service : Option Nat) : Nat :=
  match service with
  | none => s.now
  | some n => ((s.call n).bind fun c => c.sd).getD s.now

/-- The journal has no room for a ticket: 400 records, or the sequence counter exhausted (R98, R99). -/
def journalFull (i : Issue) : Bool := Config.journalSize ≤ i.journal.length || Config.sequenceTop ≤ i.sequence

/-- The checks of a QUOTE in their order, the first refusal that applies (R82). -/
def quoteRefusal (s : State) (q : QuoteFields) : Option Status :=
  if !s.timeSet then some .noTime
  else if s.issue.hold != .free then some .held
  else if s.line.condition = .closed then some .closed
  else if (zoneOf s.fares.dests q.dest).isNone then some .unknownDest
  else if (slotOf s.fares q.concession).isNone then some .unknownConcession
  else match q.service.bind (callChecks s q.dest) with
    | some r => some r
    | none =>
      if peakFails s.fares.block q.kind (peakTime s q.service) then some .peak
      else if remaining s.issue.blocks = 0 then some .noSerial
      else if journalFull s.issue then some .journalFull
      else none

/-- The fare of a quote whose checks have passed (R76). -/
def quotedFare (s : State) (q : QuoteFields) : Nat :=
  match zoneOf s.fares.dests q.dest, slotOf s.fares q.concession with
  | some z, some c => fareOf s.fares.block z q.kind c
  | _, _ => 0

/-- The pending sale an accepted quote makes (R84). -/
def newSale (s : State) (q : QuoteFields) : Sale where
  state := .quoted
  call := q.service
  dest := q.dest
  kind := q.kind
  concession := q.concession
  fare := quotedFare s q
  quoteTime := s.now
  lapse := Config.seconds Config.quoteLifetime

/-- The QUOTE response: fare, quote time, lifetime (R84, R202). -/
def quoteBytes (sale : Sale) : List Byte :=
  beBytes 2 sale.fare ++ beBytes 3 sale.quoteTime ++ beBytes 2 Config.quoteLifetime

/-- QUOTE (R82 to R84). -/
def carryQuote (port : Port) (q : QuoteFields) (s : State) : State :=
  match quoteRefusal s q with
  | some r => refuse port r s
  | none =>
    answer port (quoteBytes (newSale s q))
      (evalDemand { s with issue := { s.issue with sale := some (newSale s q), quoteDemand := some Config.demandTime } })

def execQuote (port : Port) (req : Request) (s : State) : Host.Outcome State Fault Refusal :=
  .next (onRequest .quote readQuote (carryQuote port) port req s)

/-! ## COMMIT -/

/-- The checks of a COMMIT in their order (R85). -/
def commitRefusal (s : State) : Option Status :=
  match s.issue.sale with
  | none => some .noQuote
  | some sale =>
    if sale.state = .void then some .callGone
    else if journalFull s.issue then some .journalFull
    else if remaining s.issue.blocks = 0 then some .noSerial
    else none

/-- The block list after a serial has been taken from the oldest block (R94). -/
def takeSerial : List Block → List Block
  | [] => []
  | b :: bs => if b.count ≤ 1 then bs else { b with next := b.next + 1, count := b.count - 1 } :: bs

/-- The serial the next commit takes (R94). -/
def nextSerial (blocks : List Block) : Nat := (blocks.head?.map Block.next).getD 0

/-- The ticket record of a commit (R86, R97, R98). -/
def newTicket (s : State) (sale : Sale) (payment : Nat) : Ticket where
  sequence := s.issue.sequence + 1
  serial := nextSerial s.issue.blocks
  day := s.clock.day
  issueTime := s.now
  service := sale.call
  dest := sale.dest
  kind := sale.kind
  concession := sale.concession
  fare := sale.fare
  payment := payment

/-- A serial is taken and the record appended; a cursor at the end names the new record (R94, R98, R138). -/
def appendTicket (t : Ticket) (s : State) : State :=
  { s with
    issue := { s.issue with
      blocks := takeSerial s.issue.blocks
      journal := s.issue.journal ++ [t]
      sequence := t.sequence }
    line := { s.line with cursor := s.line.cursor.or (some t.sequence) } }

/-- A commit is reported to the call table: the sold count rises, and a stop may become wanted (R19). -/
def reportCommit (call : Option Nat) (s : State) : State :=
  match call with
  | none => s
  | some n => wantStop n .ticket (s.mapCall n fun c => { c with sold := satSucc 255 c.sold })

/-- JOURNAL_NEAR_FULL is latched by the append that brings the journal to 352 records (R99). -/
def nearFullTest (s : State) : State :=
  if s.issue.journal.length = Config.nearFull then latchV .journalNearFull s else s

/-- An accepted COMMIT is carried out in R86's order. -/
def commitSale (sale : Sale) (t : Ticket) (s : State) : State :=
  let before := remaining s.issue.blocks
  let u := reportCommit sale.call (appendTicket t s)
  let v : State := { u with issue := { u.issue with sale := none } }
  let crossed := Config.lowWater ≤ before && remaining v.issue.blocks < Config.lowWater
  let w := grantAsked (nearFullTest (lowWater crossed v))
  if sale.call.any fun n => takesStop n s then rebuild w else evalDemand w

/-- COMMIT (R85, R86). -/
def carryCommit (port : Port) (payment : Nat) (s : State) : State :=
  match commitRefusal s, s.issue.sale with
  | none, some sale =>
    let t := newTicket s sale payment
    answer port (ticketBytes t) (commitSale sale t s)
  | some r, _ => refuse port r s
  | none, none => refuse port .noQuote s

def execCommit (port : Port) (req : Request) (s : State) : Host.Outcome State Fault Refusal :=
  .next (onRequest .commit readCommit (carryCommit port) port req s)

/-! ## RELEASE and SALES_STATE -/

/-- RELEASE of the vending port (R87). -/
def carryRelease (port : Port) (_ : Unit) (s : State) : State :=
  answer port [] (if s.issue.sale.isSome then evalDemand (endSale s) else s)

def execReleaseRequest (port : Port) (req : Request) (s : State) : Host.Outcome State Fault Refusal :=
  .next (onRequest .release readNothing (carryRelease port) port req s)

/-- SALES_STATE (R92). -/
def carrySalesState (port : Port) (_ : Unit) (s : State) : State := answer port (salesStateBytes s) s

def execSalesState (port : Port) (req : Request) (s : State) : Host.Outcome State Fault Refusal :=
  .next (onRequest .salesState readNothing (carrySalesState port) port req s)

/-! ## NOTICES -/

/-- The NOTICES response: returned set, pending set, mask in force (R195, R201). -/
def noticesBytes (returned pending mask : BitVec 16) : List Byte :=
  beBytes 2 returned.toNat ++ beBytes 2 pending.toNat ++ beBytes 2 mask.toNat

/-- NOTICES (R195). -/
def carryNotices (port : Port) (mask : Option (BitVec 16)) (s : State) : State :=
  let p := portOf s port
  let q : PortState := { p with notices := p.notices &&& p.mask, mask := mask.getD p.mask }
  answer port (noticesBytes p.unmasked q.notices q.mask) (setPort s port q)

def execNotices (port : Port) (req : Request) (s : State) : Host.Outcome State Fault Refusal :=
  .next (onRequest .notices (readNotices port) (carryNotices port) port req s)

/-! ## Collection and unknown commands -/

/-- What a collection transaction of `n` octets shifts out: all ones while the first octet comes in, then the response, or
EMPTY with length 0, then all ones (R187, R189). -/
def shiftedOut (buffer : Option Response) (n : Nat) : List Byte :=
  let all := 0xFF#8 :: responseOctets buffer
  all.take n ++ List.replicate (n - all.length) 0xFF#8

/-- A collection is taken (R189). -/
def collect (port : Port) (clocked : Nat) (s : State) : State :=
  let p := portOf s port
  setPort s port { p with buffer := none, dout := shiftedOut p.buffer clocked }

/-- Octets that make a collection: the collection code, and after it what the port disregards (R187). -/
def collectionOctets (clocked : Nat) : List Byte := (collectionCode :: List.replicate (clocked - 1) 0#8).take clocked

/-- COLLECTION (R189): a transaction with no whole octet is none (R187). -/
def execCollection (port : Port) (clocked : Nat) (s : State) : Host.Outcome State Fault Refusal :=
  if clocked = 0 then .next s
  else .next (onTransaction port (collectionOctets clocked) (fun _ t => collect port clocked t) s)

/-- A request that fails one of the first three form checks (R190). -/
def unknownForm (code : Byte) (rest : Request) : Bool := (framed rest).isNone || (Command.ofCode code).isNone

/-- UNKNOWN_COMMAND (R190): the transaction's first octet is the command code. A transaction with no whole octet, a
collection, and a request in good form with a code of the HC7 are not this event (log 1). -/
def execUnknownCommand (port : Port) (req : Request) (s : State) : Host.Outcome State Fault Refusal :=
  match req.octets with
  | [] => .next s
  | code :: rest =>
    if code != collectionCode && unknownForm code { octets := rest, partialOctet := req.partialOctet } then
      .next (onTransaction port (code :: rest) (fun _ t => refuse port .badRequest t) s)
    else .next s

/-! ## Timers of the issue unit -/

/-- QUOTE_LAPSE (R88). -/
def execQuoteLapse (s : State) : Host.Outcome State Fault Refusal :=
  if s.issue.sale.any fun x => x.lapse = 0 then
    .next (evalDemand (grantAsked (latchV .quoteLapsed { s with issue := { s.issue with sale := none } })))
  else .next s

/-- HOLD_EXPIRY (R103). -/
def execHoldExpiry (s : State) : Host.Outcome State Fault Refusal :=
  if s.issue.hold = .held && s.issue.limitTimer = some 0 then
    .next (offerHoldEnded .expired (setHold .free none s))
  else .next s

/-- SERIAL_ASK_REPEAT (R96). -/
def execSerialAskRepeat (s : State) : Host.Outcome State Fault Refusal :=
  if s.issue.askTimer = some 0 then
    .next (lowWater false { s with issue := { s.issue with askTimer := none } })
  else .next s

/-- QUOTE_DEMAND_EXPIRY (R176). -/
def execQuoteDemandExpiry (s : State) : Host.Outcome State Fault Refusal :=
  if s.issue.quoteDemand = some 0 then
    .next (evalDemand { s with issue := { s.issue with quoteDemand := none } })
  else .next s

end Sys2Proof.Machine
end

