-- ==== Sys2Proof/Machine/SignagePort.lean ====
section
/-! DEFINITION. The requests of the signage port and the events of the screen sequencer (chapters 02, 07, 09): BOARD,
CONDITION, SCREEN, READY, QUIET, the supply timers, ambient light. -/

namespace Sys2Proof.Machine

/-- BOARD (R50). -/
def carryBoard (port : Port) (_ : Unit) (s : State) : State := answer port (boardBytes s.board) s

def execBoard (port : Port) (req : Request) (s : State) : Host.Outcome State Fault Refusal :=
  .next (onRequest .board readNothing (carryBoard port) port req s)

/-- CONDITION (R147). -/
def carryCondition (port : Port) (_ : Unit) (s : State) : State := answer port (conditionBytes s) s

def execCondition (port : Port) (req : Request) (s : State) : Host.Outcome State Fault Refusal :=
  .next (onRequest .condition readNothing (carryCondition port) port req s)

/-- The trim of a SCREEN request replaces the held trim, and the level is recomputed (R177). -/
def setTrim (t : Option Int) (s : State) : State :=
  match t with
  | some v => relevel { s with screen := { s.screen with trim := v } }
  | none => s

/-- The mode of a SCREEN request replaces the held mode, and demand is evaluated (R177). -/
def setMode (m : Option ScreenMode) (s : State) : State :=
  match m with
  | some v => evalDemand { s with screen := { s.screen with mode := v } }
  | none => s

/-- SCREEN (R177): the response reports the state after the request. -/
def carryScreen (port : Port) (f : ScreenFields) (s : State) : State :=
  let t := setMode f.mode (setTrim f.trim s)
  answer port (screenBytes t.screen) t

def execScreen (port : Port) (req : Request) (s : State) : Host.Outcome State Fault Refusal :=
  .next (onRequest .screen readScreen (carryScreen port) port req s)

/-- READY (R171). -/
def carryReady (port : Port) (_ : Unit) (s : State) : State :=
  answer port []
    (if s.screen.supply = .powering then
      { s with screen := { s.screen with
          supply := .lampSettling, lamp := true, readyTimer := none, settling := some Config.lampSettling } }
    else s)

def execReady (port : Port) (req : Request) (s : State) : Host.Outcome State Fault Refusal :=
  .next (onRequest .ready readNothing (carryReady port) port req s)

/-- QUIET (R178). -/
def carryQuiet (port : Port) (_ : Unit) (s : State) : State :=
  if s.screen.supply != .dark then refuse port .screenLit s
  else if s.sport.unmasked != 0 then refuse port .noticesPending s
  else
    let t := sigpwrOff s
    answer port [] { t with screen := { t.screen with quiet := true } }

def execQuiet (port : Port) (req : Request) (s : State) : Host.Outcome State Fault Refusal :=
  .next (onRequest .quiet readNothing (carryQuiet port) port req s)

/-! ## The supply chain -/

/-- READY_TIMEOUT (R174). -/
def execReadyTimeout (s : State) : Host.Outcome State Fault Refusal :=
  if s.screen.supply = .powering && s.screen.readyTimer = some 0 then
    let t := sigpwrOff s
    .next (statusCause { t with screen := { t.screen with
      supply := .fault, readyTimer := none, retryTimer := some Config.faultRetry } })
  else .next s

/-- The chain becomes LIT (R172, R173, R184). -/
def becomeLit (s : State) : State :=
  evalDemand (latchS .screenState (relevel
    { s with screen := { s.screen with supply := .lit, drive := true, settling := none } }))

/-- SETTLING_EXPIRY (R172). -/
def execSettlingExpiry (s : State) : Host.Outcome State Fault Refusal :=
  if s.screen.settling.isNone then .next s
  else match s.screen.supply with
    | .lampSettling =>
      .next { s with screen := { s.screen with
        supply := .biasSettling, bias := true, settling := some Config.biasSettling } }
    | .biasSettling => .next (becomeLit s)
    | .dark | .powering | .lit | .fault => .next s

/-- IDLE_DELAY_EXPIRY (R173, R184); the entry to DARK evaluates demand (R176). -/
def execIdleDelayExpiry (s : State) : Host.Outcome State Fault Refusal :=
  if s.screen.supply = .lit && s.screen.idleTimer = some 0 then
    .next (evalDemand (latchS .screenState
      { s with screen := { s.screen with
          supply := .dark, drive := false, bias := false, lamp := false, idleTimer := none, level := 0 } }))
  else .next s

/-- FAULT_RETRY_EXPIRY (R174). -/
def execFaultRetryExpiry (s : State) : Host.Outcome State Fault Refusal :=
  if s.screen.supply = .fault && s.screen.retryTimer = some 0 then
    .next (evalDemand (statusCause { s with screen := { s.screen with supply := .dark, retryTimer := none } }))
  else .next s

/-! ## The brightness output -/

/-- BRIGHT in the `k`-th of the 63 equal steps of a period, 0 to 62, by the level held at the period's start: high for as
many steps as that level while the screen is LIT, low throughout elsewhere (R183). A level set during a period is read from
the start of the next one. DESIGN CHOICE (log 42): the high steps come first in the period, R183 giving only their number;
unsafe. -/
def bright (c : Screen) (levelAtStart k : Nat) : Bool := c.supply = .lit && k < levelAtStart

/-- One period of BRIGHT, step by step, the supply state not changing in it (R183). -/
def brightPeriod (c : Screen) (levelAtStart : Nat) : List Bool := (List.range 63).map (bright c levelAtStart)

/-! ## Ambient light -/

/-- AMB_PULSE (R180). -/
def execAmbPulse (s : State) : Host.Outcome State Fault Refusal :=
  .next { s with screen := { s.screen with ambient := satSucc Config.countTop s.screen.ambient } }

/-- The band of a window: the number of thresholds at or below its count (R181). -/
def windowBand (p : Params) (count : Nat) : Nat := (p.thresholds.filter fun t => t ≤ count).length

/-- The current band, the candidate and its run after a window (R181). -/
def adoptBand (w : Nat) (c : Screen) : Screen :=
  if w = c.band then { c with candidate := none }
  else match c.candidate with
    | some (b, run) =>
      if b = w then
        if run + 1 < 3 then { c with candidate := some (b, run + 1) } else { c with band := w, candidate := none }
      else { c with candidate := some (w, 1) }
    | none => { c with candidate := some (w, 1) }

/-- A window ends: its band is judged and the next window starts with the count at 0 (R180, R181). -/
def endWindow (p : Params) (c : Screen) : Screen :=
  adoptBand (windowBand p c.ambient) { c with ambient := 0, window := Config.ambientWindow }

/-- AMBIENT_WINDOW_END (R180 to R182). -/
def execAmbientWindowEnd (s : State) : Host.Outcome State Fault Refusal :=
  if s.screen.window = 0 then .next (relevel { s with screen := endWindow s.line.params s.screen }) else .next s

end Sys2Proof.Machine
end

