-- ==== Sys2Proof/Machine/PlatformMonitor.lean ====
section
/-! DEFINITION. The platform monitor (chapter 08): the track circuit, its timers, the stop button. -/

namespace Sys2Proof.Machine

/-- An assertion of OCC starts a SETTLING (R153). -/
def startSettling (s : State) : State :=
  { s with platform := { s.platform with
      state := .settling
      start := some (stampNow s)
      matched := none
      thresholdReached := false
      dayCrossed := false
      settleTimer := some Config.occFilter
      stopTimer := some (Config.seconds s.line.params.stopThreshold)
      standingTimer := some Config.standing } }

/-- A release filter ends by a re-assertion (R155, R166). -/
def endFilter (s : State) : State :=
  { s with platform := { s.platform with release := none, releaseTimer := none } }

/-- OCC_ASSERTED (R153, R155, R156, R166). DESIGN CHOICE (log 40): the board is rebuilt and demand
evaluated after an unmatched STOP too, for which R49 lists no event; unsafe. -/
def execOccAsserted (s : State) : Host.Outcome State Fault Refusal :=
  let t : State := { s with platform := { s.platform with occ := true } }
  match s.platform.state with
  | .clear => .next (startSettling t)
  | .settling => .next t
  | .occupied =>
    if s.platform.releaseTimer.isNone then .next t
    else if s.platform.thresholdReached then .next (rebuild (decideStop (endFilter t)))
    else .next (endFilter t)
  | .stopped | .blind => if s.platform.releaseTimer.isNone then .next t else .next (endFilter t)

/-- OCC_RELEASED (R154, R155, R166). -/
def execOccReleased (s : State) : Host.Outcome State Fault Refusal :=
  let t : State := { s with platform := { s.platform with occ := false } }
  match s.platform.state with
  | .clear => .next t
  | .settling => .next { t with platform := occupancyOver t.platform }
  | .occupied | .stopped | .blind =>
    if s.platform.releaseTimer.isSome then .next t
    else
      .next { t with platform := { t.platform with
        release := some (stampNow s), releaseTimer := some Config.occFilter } }

/-- SETTLE_EXPIRY (R154). -/
def execSettleExpiry (s : State) : Host.Outcome State Fault Refusal :=
  if s.platform.state = .settling && s.platform.settleTimer = some 0 then
    .next { s with platform := { s.platform with state := .occupied, settleTimer := none } }
  else .next s

/-- STOP_THRESHOLD_EXPIRY (R156). DESIGN CHOICE (log 40): the board is rebuilt and demand
evaluated after an unmatched STOP too, for which R49 lists no event; unsafe. -/
def execStopThresholdExpiry (s : State) : Host.Outcome State Fault Refusal :=
  if s.platform.state = .occupied && s.platform.stopTimer = some 0 then
    let t : State := { s with platform := { s.platform with stopTimer := none } }
    if s.platform.releaseTimer.isSome then
      .next { t with platform := { t.platform with thresholdReached := true } }
    else .next (rebuild (decideStop t))
  else .next s

/-- BLIND ends (R166), and the departure of a held-over call is reported (R168). -/
def endBlind (s : State) : State :=
  let t : State := { s with platform := { occupancyOver s.platform with heldOver := none } }
  match s.platform.heldOver, s.platform.release with
  | some n, some st => rebuild (reportDeparture n st t)
  | _, _ => t

/-- RELEASE_TIMER_EXPIRY (R155, R156, R160, R166). DESIGN CHOICE (log 40): the board is rebuilt and demand
evaluated after an unmatched PASS or DEPARTURE too, for which R49 lists no event; unsafe. -/
def execReleaseTimerExpiry (s : State) : Host.Outcome State Fault Refusal :=
  if s.platform.releaseTimer = some 0 then
    match s.platform.state with
    | .occupied => .next (rebuild (decidePass s))
    | .stopped => .next (rebuild (decideDeparture s))
    | .blind => .next (endBlind s)
    | .clear | .settling => .next s
  else .next s

/-- STANDING_EXPIRY (R161). -/
def execStandingExpiry (s : State) : Host.Outcome State Fault Refusal :=
  if s.platform.standingTimer = some 0 then
    let t : State := { s with platform := { s.platform with standingTimer := none } }
    if s.platform.state = .stopped then
      .next (offerObservation .standing s.platform.matched (stampNow s).observed t)
    else .next t
  else .next s

/-! ## The stop button -/

/-- A press is accepted (R164). -/
def pressAccepted (s : State) : Bool := s.platform.lastPress.all fun t => t + Config.pressGap ≤ s.clock.crystal

/-- A call the button can bind (R165). -/
def bindable (now : Nat) (c : Call) : Bool :=
  c.kind = .request && c.state.isOpen && (approach c).any fun t => now ≤ t && t ≤ now + Config.requestWindow

/-- The call a press binds (R165). -/
def boundCall (s : State) : Option Call :=
  if s.timeSet then (sortBy (timeThenService approach) (s.calls.active.filter (bindable s.now))).head? else none

/-- BUTTON_PRESS (R164, R165). DESIGN CHOICE (log 41): demand is evaluated once, at the end of the press, so that a wake by it
clears the BOARD_CHANGED that the same press has latched; unsafe. -/
def execButtonPress (s : State) : Host.Outcome State Fault Refusal :=
  if pressAccepted s then
    let t := latchS .stopButton { s with platform := { s.platform with
      lastPress := some s.clock.crystal, buttonDemand := some Config.demandTime } }
    match boundCall s with
    | some c =>
      if takesStop c.service t then .next (rebuild (wantStop c.service .button t)) else .next (evalDemand t)
    | none => .next (evalDemand t)
  else .next s

/-- BUTTON_DEMAND_EXPIRY (R176). -/
def execButtonDemandExpiry (s : State) : Host.Outcome State Fault Refusal :=
  if s.platform.buttonDemand = some 0 then
    .next (evalDemand { s with platform := { s.platform with buttonDemand := none } })
  else .next s

/-! ## Deadlines of the time of day (R37) -/

/-- DUE_POINT_REACHED (R35). -/
def execDuePointReached (n : Nat) (s : State) : Host.Outcome State Fault Refusal :=
  if s.timeSet && (s.call n).any fun c => c.state = .scheduled && isReached s.now (duePoint s.line.params c) then
    .next (rebuild (evaluateCall n s))
  else .next s

/-- LAPSE_POINT_REACHED (R36). -/
def execLapsePointReached (n : Nat) (s : State) : Host.Outcome State Fault Refusal :=
  if s.timeSet && (s.call n).any fun c => c.state.isOpen && isPast s.now (lapsePoint s.line.params c) then
    .next (rebuild (evaluateCall n s))
  else .next s

/-- HORIZON_ENTRY_REACHED (R42, R49). -/
def execHorizonEntryReached (n : Nat) (s : State) : Host.Outcome State Fault Refusal :=
  if s.timeSet && (s.call n).any fun c => isReached s.now (horizonEntry s.line.params c) then .next (rebuild s)
  else .next s

/-- DISPLAY_END_REACHED (R42, R49). -/
def execDisplayEndReached (n : Nat) (s : State) : Host.Outcome State Fault Refusal :=
  if s.timeSet && (s.call n).any fun c => c.state = .cancelled && isReached s.now (displayEnd s.line.params c) then
    .next (rebuild s)
  else .next s

/-- STALENESS_POINT_REACHED (R39, R49). -/
def execStalenessPointReached (n : Nat) (s : State) : Host.Outcome State Fault Refusal :=
  if s.timeSet && (s.call n).any fun c => isStale s.line.params s.now c then .next (rebuild s) else .next s

/-- WAKE_ENTRY_REACHED (R176). -/
def execWakeEntryReached (n : Nat) (s : State) : Host.Outcome State Fault Refusal :=
  if s.timeSet && (s.board.board.rows.any fun r => r.service = n)
      && (s.call n).any fun c => isReached s.now (wakeEntry s.line.params c) then .next (evalDemand s)
  else .next s

end Sys2Proof.Machine
end

