-- ==== Sys2Proof/Machine/Resets.lean ====
section
/-! DEFINITION. Resets (00, chapters 03, 06, 10): FULL_RESET, VBAK_LOW, the port holds and resets, STRAP_READ,
SEL_RISES_IN_DISCARD. -/

namespace Sys2Proof.Machine

/-! ## The full reset, block by block -/

/-- The time base after a cold start (R66). -/
def coldClock : Clock := Clock.reset

/-- The ticks of the service day counted while the part was held in reset (R65). -/
def heldTotal (c : Clock) (heldTicks : Nat) : Nat := c.time.ticks + heldTicks

/-- The wraps of a set clock during the reset (R65). -/
def heldWraps (c : Clock) (heldTicks : Nat) : Nat :=
  if c.setMarker then heldTotal c heldTicks / Config.dayTicks else 0

/-- The time base after a warm start, the rollover-owed marker not yet acted on (R51, R52, R65). -/
def warmClock (c : Clock) (heldTicks : Nat) : Clock where
  time := TimeOfDay.ofTicks (heldTotal c heldTicks)
  day := c.day + BitVec.ofNat 16 (heldWraps c heldTicks)
  setMarker := c.setMarker
  owed := c.owed || 0 < heldWraps c heldTicks
  timeState := if c.setMarker then .holdover else .unset
  slew := 0
  slewHalf := false
  disputes := 0
  holdover := none
  crystal := 0
  frameStart := none
  loss := false
  startKind := .warm

/-- The issue unit after a warm start: what it retains, and the rest at its reset values (R105). -/
def warmIssue (i : Issue) : Issue :=
  { Issue.reset with blocks := i.blocks, journal := i.journal, sequence := i.sequence }

/-- The highest sent after a warm start (R138). -/
def warmHighest (i : Issue) : Nat :=
  match i.journal with
  | t :: _ => t.sequence - 1
  | [] => i.sequence

/-- The line interface after a warm start: what it retains, and the rest at its reset values (R65, R120, R138). -/
def warmLine (l : Line) (i : Issue) : Line :=
  { Line.reset with
    params := l.params
    condition := l.condition
    textCode := l.textCode
    cursor := i.journal.head?.map Ticket.sequence
    highestSent := warmHighest i }

/-- The call found in ARRIVED, the lowest service number if a state no run reaches holds more than one (R168, log 24). -/
def heldOverOf (bank : List Call) : Option Nat := (bank.find? fun c => c.state = .arrived).map fun c => c.service

/-- The platform monitor after a full reset (R167, R168). -/
def resetPlatform (occ : Bool) (bank : List Call) : Platform :=
  { Platform.reset with occ := occ, state := if occ then .blind else .clear, heldOver := heldOverOf bank }

/-- A port after a full reset (R199); whether its reset line is still low is not changed by it. -/
def PortState.fullReset (p : PortState) (selLow : Bool) : PortState := { p.afterReset selLow with dout := [] }

/-- The state right after a warm start, before any start action: the retained store kept (R65), all else reset. -/
def warmStart (pins : ResetPins) (s : State) : State :=
  { s with
    clock := warmClock s.clock pins.heldTicks
    issue := warmIssue s.issue
    line := warmLine s.line s.issue
    platform := resetPlatform pins.occ s.calls.active
    screen := Screen.reset
    vport := s.vport.fullReset pins.vselLow
    sport := s.sport.fullReset pins.sselLow }

/-- The state right after a cold start, before any start action (R25, R66, R71, R107). -/
def coldStart (pins : ResetPins) (s : State) : State :=
  { s with
    calls := { active := [], next := [], nextState := .empty }
    clock := coldClock
    fares := FareTable.defaults
    issue := Issue.reset
    line := Line.reset
    platform := resetPlatform pins.occ []
    screen := Screen.reset
    vport := s.vport.fullReset pins.vselLow
    sport := s.sport.fullReset pins.sselLow }

/-! ## The start actions (R199, log 9) -/

/-- A rollover owed is reported once, the marker cleared; the day number already counts it (R65). -/
def owedRollover (s : State) : State :=
  if s.clock.owed then rolloverCalls { s with clock := { s.clock with owed := false } } else s

/-- A stop asked for but not acknowledged is wanted again (R24). -/
def warmStop (c : Call) : Call :=
  if c.stop = .wanted || c.stop = .sent then { c with stop := .wanted, ackTimer := none } else c

/-- The warm-start actions of the call table (R24, log 10). -/
def warmCalls (s : State) : State := offerStops (recomputeAll (s.mapActive warmStop))

/-- The departure of a call held over into CLEAR (R168). -/
def heldOverDeparture (s : State) : State :=
  match s.platform.state, s.platform.heldOver with
  | .clear, some n => reportDeparture n (stampNow s) { s with platform := { s.platform with heldOver := none } }
  | _, _ => s

/-- The straps read at a full reset: a reading of 1..15 is the address, and the link is HUNT, latching nothing (R120). -/
def readStraps (straps : BitVec 4) (s : State) : State :=
  if straps = 0 then s else { s with line := { s.line with address := straps.toNat, link := .hunt } }

/-- The first board build: revision 0, no notice (R40). -/
def firstBoard (s : State) : State := { s with board := { board := buildBoard s, revision := 0 } }

/-- The start actions of a warm start, but for the last ones, which every full reset takes. -/
def warmActions (s : State) : State := heldOverDeparture (warmCalls (owedRollover s))

/-- What every full reset ends with: the low-water test (R105, R107), the straps (R120), the first board build (R40), and
the evaluation of demand (R176), with SSEL as the reset has sampled it. -/
def endReset (straps : BitVec 4) (s : State) : State :=
  evalDemandAt s.sport.selLow (firstBoard (readStraps straps (lowWater false s)))

/-- FULL_RESET (R64 to R66, R199): cold if LOSS is set, else warm. -/
def execFullReset (pins : ResetPins) (s : State) : Host.Outcome State Fault Refusal :=
  if s.clock.loss then .next (endReset pins.straps (coldStart pins s))
  else .next (endReset pins.straps (warmActions (warmStart pins s)))

/-- VBAK_LOW (R64): VBAK falls below its hold level. DESIGN CHOICE (log 43): the level of VBAK is not held, so LOSS that a cold
start has cleared is set again by the next VBAK_LOW only, even if VBAK has stayed low; unsafe. -/
def execVbakLow (s : State) : Host.Outcome State Fault Refusal :=
  .next { s with clock := { s.clock with loss := true } }

/-! ## The ports' reset lines -/

/-- VENDING_PORT_HOLD (R196). -/
def execVendingPortHold (selLow : Bool) (s : State) : Host.Outcome State Fault Refusal :=
  .next { s with vport := s.vport.hold true selLow }

/-- SIGNAGE_PORT_HOLD (R197); while SIGPWR is off SEL is disregarded, so no transaction is open (R198). -/
def execSignagePortHold (selLow : Bool) (s : State) : Host.Outcome State Fault Refusal :=
  .next { s with sport := s.sport.hold s.screen.sigpwr selLow }

/-- A reset line returns high: the port is no longer held, and its reset is applied (R196, R197). -/
def PortState.release (p : PortState) (selLow : Bool) : PortState := { p.afterReset selLow with held := false }

/-- VENDING_PORT_RESET (R106, R196): the sale is removed after the port has been reset. -/
def execVendingPortReset (selLow : Bool) (s : State) : Host.Outcome State Fault Refusal :=
  let t : State := { s with vport := s.vport.release selLow }
  .next (if s.issue.sale.isSome then evalDemand (endSale t) else t)

/-- SIGNAGE_PORT_RESET (R179, R197). -/
def execSignagePortReset (selLow : Bool) (s : State) : Host.Outcome State Fault Refusal :=
  .next { s with sport := s.sport.release selLow, screen := { s.screen with quiet := false } }

/-! ## Straps and SEL -/

/-- STRAP_READ (R120): in DARK, a reading of 1..15 is the address and moves the link to HUNT. -/
def execStrapRead (straps : BitVec 4) (s : State) : Host.Outcome State Fault Refusal :=
  if s.line.link = .dark && straps != 0 then
    .next (setLink .hunt { s with line := { s.line with address := straps.toNat } })
  else .next s

/-- SEL_RISES_IN_DISCARD (R187): the framing state becomes IDLE; a port that disregards SEL keeps its framing state, and
only its pin is high (R196, R198). -/
def execSelRisesInDiscard (port : Port) (s : State) : Host.Outcome State Fault Refusal :=
  if (portOf s port).framing = .discard then .next (selRises port s) else .next s

end Sys2Proof.Machine
end

