-- ==== Sys2Proof/Machine/Dispatch.lean ====
section
/-! DEFINITION. The meaning of each command: one arm for each constructor of Instr. -/

namespace Sys2Proof.Machine

def exec (i : Instr) (s : State) : Host.Outcome State Fault Refusal :=
  match i with
  | .fullReset pins => Sys2Proof.Machine.execFullReset pins s
  | .vbakLow => Sys2Proof.Machine.execVbakLow s
  | .vendingPortHold selLow => Sys2Proof.Machine.execVendingPortHold selLow s
  | .vendingPortReset selLow => Sys2Proof.Machine.execVendingPortReset selLow s
  | .signagePortHold selLow => Sys2Proof.Machine.execSignagePortHold selLow s
  | .signagePortReset selLow => Sys2Proof.Machine.execSignagePortReset selLow s
  | .strapRead straps => Sys2Proof.Machine.execStrapRead straps s
  | .occAsserted => Sys2Proof.Machine.execOccAsserted s
  | .occReleased => Sys2Proof.Machine.execOccReleased s
  | .buttonPress => Sys2Proof.Machine.execButtonPress s
  | .ambPulse => Sys2Proof.Machine.execAmbPulse s
  | .crystalTick => Sys2Proof.Machine.execCrystalTick s
  | .time port req => Sys2Proof.Machine.execTime port req s
  | .calls port req => Sys2Proof.Machine.execCalls port req s
  | .quote port req => Sys2Proof.Machine.execQuote port req s
  | .commit port req => Sys2Proof.Machine.execCommit port req s
  | .releaseRequest port req => Sys2Proof.Machine.execReleaseRequest port req s
  | .salesState port req => Sys2Proof.Machine.execSalesState port req s
  | .notices port req => Sys2Proof.Machine.execNotices port req s
  | .board port req => Sys2Proof.Machine.execBoard port req s
  | .condition port req => Sys2Proof.Machine.execCondition port req s
  | .screen port req => Sys2Proof.Machine.execScreen port req s
  | .ready port req => Sys2Proof.Machine.execReady port req s
  | .quiet port req => Sys2Proof.Machine.execQuiet port req s
  | .collection port clocked => Sys2Proof.Machine.execCollection port clocked s
  | .unknownCommand port req => Sys2Proof.Machine.execUnknownCommand port req s
  | .downwardFrameStart => Sys2Proof.Machine.execDownwardFrameStart s
  | .badFrame cause => Sys2Proof.Machine.execBadFrame cause s
  | .frameDiscarded addr kind payload => Sys2Proof.Machine.execFrameDiscarded addr kind payload s
  | .beacon addr payload => Sys2Proof.Machine.execBeacon addr payload s
  | .delay addr payload => Sys2Proof.Machine.execDelay addr payload s
  | .cancel addr payload => Sys2Proof.Machine.execCancel addr payload s
  | .reinstate addr payload => Sys2Proof.Machine.execReinstate addr payload s
  | .restart addr payload => Sys2Proof.Machine.execRestart addr payload s
  | .admission addr payload => Sys2Proof.Machine.execAdmission addr payload s
  | .stopAck addr payload => Sys2Proof.Machine.execStopAck addr payload s
  | .saleAck addr payload => Sys2Proof.Machine.execSaleAck addr payload s
  | .serialGrant addr payload => Sys2Proof.Machine.execSerialGrant addr payload s
  | .hold addr payload => Sys2Proof.Machine.execHold addr payload s
  | .releaseMessage addr payload => Sys2Proof.Machine.execReleaseMessage addr payload s
  | .loadCall addr payload => Sys2Proof.Machine.execLoadCall addr payload s
  | .loadClear addr payload => Sys2Proof.Machine.execLoadClear addr payload s
  | .loadEnd addr payload => Sys2Proof.Machine.execLoadEnd addr payload s
  | .loadFareDest addr payload => Sys2Proof.Machine.execLoadFareDest addr payload s
  | .loadFarePrice addr payload => Sys2Proof.Machine.execLoadFarePrice addr payload s
  | .loadConcession addr payload => Sys2Proof.Machine.execLoadConcession addr payload s
  | .loadParams addr payload => Sys2Proof.Machine.execLoadParams addr payload s
  | .setTime addr payload => Sys2Proof.Machine.execSetTime addr payload s
  | .upwardFrameStart => Sys2Proof.Machine.execUpwardFrameStart s
  | .frameComplete => Sys2Proof.Machine.execFrameComplete s
  | .contentionLoss => Sys2Proof.Machine.execContentionLoss s
  | .lineFault => Sys2Proof.Machine.execLineFault s
  | .thresholdReturn => Sys2Proof.Machine.execThresholdReturn s
  | .quoteLapse => Sys2Proof.Machine.execQuoteLapse s
  | .holdExpiry => Sys2Proof.Machine.execHoldExpiry s
  | .serialAskRepeat => Sys2Proof.Machine.execSerialAskRepeat s
  | .holdoverExpiry => Sys2Proof.Machine.execHoldoverExpiry s
  | .stopAckTimeout service => Sys2Proof.Machine.execStopAckTimeout service s
  | .ackTimerExpiry => Sys2Proof.Machine.execAckTimerExpiry s
  | .joinTimerExpiry => Sys2Proof.Machine.execJoinTimerExpiry s
  | .admissionTimeout => Sys2Proof.Machine.execAdmissionTimeout s
  | .silenceTimeout => Sys2Proof.Machine.execSilenceTimeout s
  | .lostTimeout => Sys2Proof.Machine.execLostTimeout s
  | .statusPeriod => Sys2Proof.Machine.execStatusPeriod s
  | .quoteDemandExpiry => Sys2Proof.Machine.execQuoteDemandExpiry s
  | .buttonDemandExpiry => Sys2Proof.Machine.execButtonDemandExpiry s
  | .settleExpiry => Sys2Proof.Machine.execSettleExpiry s
  | .stopThresholdExpiry => Sys2Proof.Machine.execStopThresholdExpiry s
  | .releaseTimerExpiry => Sys2Proof.Machine.execReleaseTimerExpiry s
  | .standingExpiry => Sys2Proof.Machine.execStandingExpiry s
  | .readyTimeout => Sys2Proof.Machine.execReadyTimeout s
  | .settlingExpiry => Sys2Proof.Machine.execSettlingExpiry s
  | .idleDelayExpiry => Sys2Proof.Machine.execIdleDelayExpiry s
  | .faultRetryExpiry => Sys2Proof.Machine.execFaultRetryExpiry s
  | .ambientWindowEnd => Sys2Proof.Machine.execAmbientWindowEnd s
  | .duePointReached service => Sys2Proof.Machine.execDuePointReached service s
  | .lapsePointReached service => Sys2Proof.Machine.execLapsePointReached service s
  | .horizonEntryReached service => Sys2Proof.Machine.execHorizonEntryReached service s
  | .displayEndReached service => Sys2Proof.Machine.execDisplayEndReached service s
  | .stalenessPointReached service => Sys2Proof.Machine.execStalenessPointReached service s
  | .wakeEntryReached service => Sys2Proof.Machine.execWakeEntryReached service s
  | .rollover => Sys2Proof.Machine.execRollover s
  | .symbolPeriodEnd message echo => Sys2Proof.Machine.execSymbolPeriodEnd message echo s
  | .selRisesInDiscard port => Sys2Proof.Machine.execSelRisesInDiscard port s

end Sys2Proof.Machine
end

