-- ==== Sys2Proof/Machine/Step.lean ====
section
/-! DEFINITION. One step of the HC7: the command at the front of the queue is taken and carried out (95). -/

namespace Sys2Proof.Machine

/-- The command at the front of the queue is carried out with the rest of the queue behind it; on an empty queue the block
idles (DESIGN CHOICE, log 3). -/
def step (s : State) : Host.Outcome State Fault Refusal :=
  match s.pending with
  | [] => .next s
  | c :: rest => exec c { s with pending := rest }

/-- The command a word of the table spells, put at the front of the queue; the state itself where the word spells none
(log 30). -/
def State.withFetchWord (s : State) (nbits w : Nat) : State :=
  match decodeTableWord nbits w with
  | some c => { s with pending := c :: s.pending }
  | none => s

end Sys2Proof.Machine
end

