-- ==== Sys2Proof/Safety.lean ====
section
/-! DEFINITION. What a sound state of the HC7 is, block by block: the invariants the manual states of its own state, and
the vocabulary the statements share. -/

namespace Sys2Proof.Machine

/-! ## Vocabulary of the statements -/

/-- A valid downward frame of this kind, address and payload is taken (R111, R127). -/
def takesMessage (s : State) (k : DownKind) (addr : Byte) (payload : List Byte) : Prop :=
  heard s addr k.code payload = true ∧ taken s k addr = true

/-- A request transaction on this port is taken (R187): the port is neither held in reset nor unpowered, and is not waiting
for SEL to rise. -/
def takesTransaction (s : State) (port : Port) : Prop :=
  listening s port = true ∧ (portOf s port).framing ≠ .discard

/-- A request passes the first four form checks with this payload (R190). -/
def wellFramed (cmd : Command) (port : Port) (req : Request) (payload : List Byte) : Prop :=
  framed req = some payload ∧ cmd.ofPort port = true

/-- A port as a taken transaction leaves it before its response: SEL high, framing IDLE (R187). -/
def PortState.idle (p : PortState) : PortState := { p with selLow := false, framing := .idle, octets := [] }

/-- A port with a response in its buffer (R188). -/
def PortState.answered (p : PortState) (r : Response) : PortState := { p.idle with buffer := some r }

/-- The command of a downward message kind. -/
def DownKind.message : DownKind → Byte → List Byte → Instr
  | .beacon => .beacon
  | .delay => .delay
  | .cancel => .cancel
  | .reinstate => .reinstate
  | .restart => .restart
  | .admission => .admission
  | .stopAck => .stopAck
  | .saleAck => .saleAck
  | .serialGrant => .serialGrant
  | .hold => .hold
  | .release => .releaseMessage
  | .loadCall => .loadCall
  | .loadClear => .loadClear
  | .loadEnd => .loadEnd
  | .loadFareDest => .loadFareDest
  | .loadFarePrice => .loadFarePrice
  | .loadConcession => .loadConcession
  | .loadParams => .loadParams
  | .setTime => .setTime

/-- The payload length a kind requires; that of LOAD_CALL is judged from its two count octets (11.4, R203). -/
def DownKind.hasLength (k : DownKind) (p : List Byte) : Bool :=
  match k with
  | .beacon | .delay => p.length = 8
  | .cancel | .reinstate | .stopAck => p.length = 2
  | .restart | .hold | .release | .loadClear => p.length = 0
  | .admission => p.length = 6
  | .saleAck | .loadConcession => p.length = 4
  | .serialGrant | .setTime => p.length = 5
  | .loadCall => p.length = 16 + 2 * field p 14 1 + 3 * field p (15 + 2 * field p 14 1) 1
  | .loadEnd => p.length = 1
  | .loadFareDest => p.length = 3
  | .loadFarePrice => p.length = 32
  | .loadParams => p.length = 39

/-- The command of a port command. -/
def Command.request : Command → Port → Request → Instr
  | .time => .time
  | .calls => .calls
  | .quote => .quote
  | .commit => .commit
  | .release => .releaseRequest
  | .salesState => .salesState
  | .notices => .notices
  | .board => .board
  | .condition => .condition
  | .screen => .screen
  | .ready => .ready
  | .quiet => .quiet

/-- The payload length a port command requires (11.3, R191). -/
def Command.length : Command → Nat
  | .time | .release | .salesState | .board | .condition | .ready | .quiet => 0
  | .commit => 1
  | .calls | .notices | .screen => 2
  | .quote => 6

/-- The state once a request has been taken, before it is carried out. -/
def requestTaken (port : Port) (s : State) : State := setPort s port (portOf s port).idle

/-- The state once a request that changes nothing else has been answered. -/
def answeredWith (port : Port) (r : Response) (s : State) : State := setPort s port ((portOf s port).answered r)

/-- Two calls differ in no scheduled field. -/
def sameSchedule (c d : Call) : Prop := c.toScheduled = d.toScheduled

/-- Every call but those of one service number is the same in two banks, in the same order. -/
def othersSame (n : Nat) (bank bank' : List Call) : Prop :=
  bank.filter (fun c => c.service ≠ n) = bank'.filter (fun c => c.service ≠ n)

/-- The port, notices apart. -/
def PortState.sameButNotices (p q : PortState) : Prop := { p with notices := 0 } = { q with notices := 0 }

/-! ## Call table -/

/-- The ranges of the scheduled fields of a record in a bank (R1 to R3, R7). -/
structure Scheduled.InRange (r : Scheduled) : Prop where
  service : 1 ≤ r.service ∧ r.service ≤ 9999
  dest : 1 ≤ r.dest ∧ r.dest ≤ 999
  sa : ∀ t ∈ r.sa, t ≤ Config.lastSecond
  sd : ∀ t ∈ r.sd, t ≤ Config.lastSecond
  times : r.timesOk = true
  md : r.md ≤ 600
  served : r.served.length ≤ 6 ∧ r.served.Nodup ∧ ∀ d ∈ r.served, 1 ≤ d ∧ d ≤ 999
  points : r.points.length ≤ 4 ∧ (r.points.map Prod.fst).Nodup ∧ ∀ q ∈ r.points, 1 ≤ q.1 ∧ q.1 ≤ 255 ∧ q.2 ≤ 900

/-- A bank: up to 96 records in range, in rising order of service number, so that no two carry the same one (R1, R5). -/
structure GoodBank (bank : List Call) : Prop where
  sorted : bank.Pairwise fun c d => c.service < d.service
  size : bank.length ≤ Config.bankSize
  inRange : ∀ c ∈ bank, c.toScheduled.InRange

/-- The two banks (R5, R6). -/
structure BankInv (s : State) : Prop where
  active : GoodBank s.calls.active
  next : GoodBank s.calls.next
  empty : s.calls.nextState = .empty → s.calls.next = []

/-- The stop fields of an ACTIVE call (R4, R17, R18): a STOPS call is in NONE; the origin and the wanted time are set exactly
out of NONE; the acknowledgement timer runs only in SENT and in a saleable state. -/
structure StopFields (c : Call) : Prop where
  stops : c.kind = .stops → c.stop = .none
  origin : c.origin.isNone = decide (c.stop = .none)
  wantedAt : c.wantedAt.isNone = decide (c.stop = .none)
  ackTimer : c.ackTimer.isSome = true → c.stop = .sent ∧ c.state.saleable = true

/-- The service number of a queued STOP_REQUEST. -/
def Item.stopOf : Item → Option Nat
  | .stopRequest n _ _ => some n
  | _ => none

/-- What a frame in progress that still has its item queued says of the queues (R114, R118). -/
def TxFrame.atHead (f : TxFrame) (l : Line) : Prop :=
  match f.source with
  | .urgentItem i => f.queued = true → l.urgent.head? = some i
  | .routineItem i => f.queued = true → l.routine.head? = some i
  | .join | .sale _ => f.queued = false

/-- Stop requests (R18, R20, R132): each queued STOP_REQUEST is that of a REQUEST call in WANTED and a saleable state, as the
call holds it; no call has two; none is in the routine queue. -/
structure StopInv (s : State) : Prop where
  fields : ∀ c ∈ s.calls.active, StopFields c
  queued : ∀ i ∈ s.line.urgent, ∀ n ∈ i.stopOf,
    ∃ c ∈ s.calls.active, c.service = n ∧ c.kind = .request ∧ c.stop = .wanted ∧ c.state.saleable = true ∧ i = stopItem c
  once : (s.line.urgent.filterMap Item.stopOf).Nodup
  routine : ∀ i ∈ s.line.routine, i.stopOf = none
  head : ∀ f ∈ s.line.tx, f.atHead s.line

/-! ## Issue unit -/

/-- The pending sale and the table hold (R81, R89, R100): no sale in HELD or while the time is UNSET, a sale in ASKED; the
limit timer runs exactly in HELD; a QUOTED sale bound to a call is bound to an ACTIVE call in a saleable state. -/
structure SaleInv (s : State) : Prop where
  held : s.issue.hold = .held → s.issue.sale = none
  asked : s.issue.hold = .asked → s.issue.sale.isSome = true
  unset : s.clock.timeState = .unset → s.issue.sale = none
  limit : s.issue.limitTimer.isSome = decide (s.issue.hold = .held)
  bound : ∀ x ∈ s.issue.sale, x.state = .quoted → ∀ n ∈ x.call,
    ∃ c ∈ s.calls.active, c.service = n ∧ c.state.saleable = true

/-- A serial lies in the unused range of a block (R93). -/
def Block.holds (b : Block) (serial : Nat) : Prop := b.next ≤ serial ∧ serial < b.next + b.count

/-- The serial block list and the journal (R93, R97, R98): ranges; unused ranges that do not meet; no unused serial and no
journal serial twice; sequence numbers that rise by one up to the counter. -/
structure StockInv (i : Issue) : Prop where
  blockCount : i.blocks.length ≤ Config.serialBlocks
  blockRange : ∀ b ∈ i.blocks, 1 ≤ b.first ∧ b.first ≤ b.next ∧ 1 ≤ b.count ∧ b.count ≤ Config.grantTop
    ∧ b.next + b.count ≤ Config.serialTop + 1
  apart : i.blocks.Pairwise fun b d => rangesMeet b.next b.count d.next d.count = false
  unissued : ∀ b ∈ i.blocks, ∀ t ∈ i.journal, ¬ b.holds t.serial
  serials : (i.journal.map Ticket.serial).Nodup
  size : i.journal.length ≤ Config.journalSize
  counter : i.sequence ≤ Config.sequenceTop ∧ i.journal.length ≤ i.sequence
  rising : i.journal.map Ticket.sequence
    = (List.range i.journal.length).map fun k => i.sequence - i.journal.length + 1 + k

/-- The drain (R138, R139): the cursor names a journal record or the end; the highest sent is no later than the last number
assigned, and so is the record of a SALE frame in progress; the acknowledgement timer runs only while the journal holds a
sent record. -/
structure DrainInv (s : State) : Prop where
  cursor : ∀ n ∈ s.line.cursor, ∃ t ∈ s.issue.journal, t.sequence = n
  highest : s.line.highestSent ≤ s.issue.sequence
  onLine : ∀ f ∈ s.line.tx, ∀ n, f.source = .sale n → n ≤ s.issue.sequence
  timer : s.line.saleAckTimer.isSome = true → anySent s.issue.journal s.line.highestSent = true

/-! ## Time base -/

/-- A time of day is in range (R51). -/
def TimeOfDay.InRange (t : TimeOfDay) : Prop := t.sec ≤ Config.lastSecond ∧ t.tick ≤ 15

/-- The time base (R51, R52, R56 to R58, R65). -/
structure ClockInv (c : Clock) : Prop where
  time : c.time.InRange
  marker : c.setMarker = decide (c.timeState ≠ .unset)
  slew : c.slew ≤ 14400
  disputes : c.disputes ≤ 255
  holdover : c.holdover.isSome = decide (c.timeState = .locked)
  owed : c.owed = false

/-! ## Stores -/

/-- The halt parameters (R144, R145). -/
structure Params.InRange (p : Params) : Prop where
  salesMargin : p.salesMargin ≤ 600
  requestMargin : 120 ≤ p.requestMargin ∧ p.requestMargin ≤ 1800
  dueWindow : 60 ≤ p.dueWindow ∧ p.dueWindow ≤ 600
  boardHorizon : 30 ≤ p.boardHorizon ∧ p.boardHorizon ≤ 240
  lateThreshold : 1 ≤ p.lateThreshold ∧ p.lateThreshold ≤ 15
  cancelledHold : p.cancelledHold ≤ 60
  stalenessLimit : 300 ≤ p.stalenessLimit ∧ p.stalenessLimit ≤ 3600
  stopThreshold : 5 ≤ p.stopThreshold ∧ p.stopThreshold ≤ 60
  attribution : 300 ≤ p.attribution ∧ p.attribution ≤ 3600
  wakeWindow : 5 ≤ p.wakeWindow ∧ p.wakeWindow ≤ 60
  idleDelay : 30 ≤ p.idleDelay ∧ p.idleDelay ≤ 900
  thresholds : p.thresholds.length = 7 ∧ p.thresholds.Pairwise (· ≤ ·) ∧ ∀ t ∈ p.thresholds, t ≤ 65535
  levels : p.levels.length = 8 ∧ ∀ l ∈ p.levels, l ≤ 63

/-- The fare table (R67, R68, R70). -/
structure FareInv (f : FareTable) : Prop where
  sorted : f.dests.Pairwise fun d e => d.1 < e.1
  size : f.dests.length ≤ Config.fareDestinations
  dests : ∀ d ∈ f.dests, 1 ≤ d.1 ∧ d.1 ≤ 999 ∧ 1 ≤ d.2 ∧ d.2 ≤ 12
  prices : f.block.zones.length = 12 ∧ ∀ z ∈ f.block.zones, z ≤ 20000
  percentages : 100 ≤ f.block.ret ∧ f.block.ret ≤ 250 ∧ f.block.off ≤ 90
  peak : f.block.peakStart ≤ Config.lastSecond ∧ f.block.peakEnd ≤ Config.lastSecond
  slots : f.slots.length = 8 ∧ f.slots.head? = some (some { discount := 0, minimum := 0 })
  concessions : ∀ x ∈ f.slots, ∀ c ∈ x, c.discount ≤ 100 ∧ c.minimum ≤ 2000

/-! ## Line interface -/

/-- The link state, its timers and its frame (R113, R114, R117, R119 to R125, R148). -/
structure LinkInv (l : Line) : Prop where
  address : l.address ≤ 15 ∧ (l.address = 0 ↔ l.link = .dark)
  admission : l.admissionTimer.isSome = decide (l.link = .synced)
  silence : l.silenceTimer.isSome = decide (l.link = .admitted)
  lost : l.lostTimer.isSome = decide (l.link = .lost)
  status : l.statusTimer.isSome = decide (l.link = .admitted)
  join : l.link = .synced → l.joinTimer.isSome = !l.joinPending
  joinElse : l.link ≠ .synced → l.joinTimer = none
  resume : l.link = .dark ∨ l.link = .hunt → l.resume = false
  sends : ∀ f ∈ l.tx, (l.link = .synced ∧ f.source = .join) ∨ (l.link = .admitted ∧ f.source ≠ .join)
  urgent : l.urgentThreshold = Config.urgentBase ∨ l.urgentThreshold = Config.urgentRaised
  routine : l.routineThreshold = Config.routineBase ∨ l.routineThreshold = Config.routineRaised
  run : l.faultRun ≤ 2
  idle : l.idleCount ≤ 255

/-- The queues and the counts (R128, R131, R148, R150): a STATUS is owed only while a STATUS frame is on the line. -/
structure QueueInv (l : Line) : Prop where
  urgent : l.urgent.length ≤ Config.urgentSize
  routine : l.routine.length ≤ Config.routineSize
  oneStatus : ((l.urgent ++ l.routine).filter Item.isStatus).length ≤ 1
  owed : l.statusOwed = true → ∃ f ∈ l.tx, f.carriesStatus = true
  counts : l.badFrames ≤ Config.countTop ∧ l.contentions ≤ Config.countTop ∧ l.faults ≤ Config.countTop
    ∧ l.discards ≤ Config.countTop

/-! ## Platform monitor -/

/-- The occupancy states and what runs and is recorded in each (R152 to R156, R160, R166, R168). -/
def PlatformInv (m : Platform) : Prop :=
  (m.heldOver.isSome = true → m.state = .blind) ∧
  match m.state with
  | .clear => m.occ = false ∧ m.start = none ∧ m.release = none ∧ m.matched = none ∧ m.settleTimer = none
      ∧ m.stopTimer = none ∧ m.standingTimer = none ∧ m.releaseTimer = none
  | .settling => m.occ = true ∧ m.start.isSome = true ∧ m.release = none ∧ m.matched = none
      ∧ m.settleTimer.isSome = true ∧ m.stopTimer.isSome = true ∧ m.releaseTimer = none ∧ m.thresholdReached = false
  | .occupied => m.start.isSome = true ∧ m.matched = none ∧ m.settleTimer = none
      ∧ m.release.isSome = !m.occ ∧ m.releaseTimer.isSome = !m.occ
      ∧ m.stopTimer.isSome = !m.thresholdReached ∧ (m.thresholdReached = true → m.occ = false)
  | .stopped => m.start.isSome = true ∧ m.settleTimer = none ∧ m.stopTimer = none
      ∧ m.release.isSome = !m.occ ∧ m.releaseTimer.isSome = !m.occ
  | .blind => m.start = none ∧ m.matched = none ∧ m.settleTimer = none ∧ m.stopTimer = none ∧ m.standingTimer = none
      ∧ m.release.isSome = !m.occ ∧ m.releaseTimer.isSome = !m.occ

/-! ## Screen sequencer -/

/-- The enable outputs LAMP, BIAS and DRIVE of a supply state (R169). -/
def outputsOf : Supply → Bool × Bool × Bool
  | .dark | .powering | .fault => (false, false, false)
  | .lampSettling => (true, false, false)
  | .biasSettling => (true, true, false)
  | .lit => (true, true, true)

/-- The length of the settling stage of a supply state (R169, R172). -/
def settlingOf : Supply → Option Nat
  | .lampSettling => some Config.lampSettling
  | .biasSettling => some Config.biasSettling
  | .dark | .powering | .lit | .fault => none

/-- The supply chain (R169, R170, R179, R182): the outputs and the timers of the supply state, a quiet processor switched
off, the brightness level, and the bands. -/
structure SupplyInv (s : State) : Prop where
  outputs : (s.screen.lamp, s.screen.bias, s.screen.drive) = outputsOf s.screen.supply
  sigpwr : s.screen.supply ≠ .dark → s.screen.sigpwr = decide (s.screen.supply ≠ .fault)
  quiet : s.screen.quiet = true → s.screen.sigpwr = false
  ready : s.screen.readyTimer.isSome = decide (s.screen.supply = .powering)
  settling : s.screen.settling = settlingOf s.screen.supply
  idle : s.screen.idleTimer.isSome = true → s.screen.supply = .lit
  retry : s.screen.retryTimer.isSome = decide (s.screen.supply = .fault)
  level : s.screen.level
    = if s.screen.supply = .lit then litLevel s.line.params s.screen.band s.screen.trim else 0
  trim : -16 ≤ s.screen.trim ∧ s.screen.trim ≤ 15
  run : ∀ x ∈ s.screen.candidate, x.1 ≠ s.screen.band ∧ 1 ≤ x.2 ∧ x.2 ≤ 2
  ambient : s.screen.ambient ≤ Config.countTop ∧ s.screen.window ≤ Config.ambientWindow

/-! ## Board and ports -/

/-- The board's banner is that of the stores it is built from, and it has at most six rows, none while the time is UNSET
(R41, R44, R48). -/
structure BoardInv (s : State) : Prop where
  condition : s.board.board.condition = s.line.condition
  textCode : s.board.board.textCode = s.line.textCode
  notSet : s.board.board.notSet = decide (s.clock.timeState = .unset)
  rows : s.board.board.rows.length ≤ Config.boardRows
  unset : s.clock.timeState = .unset → s.board.board.rows = []
  shown : ∀ r ∈ s.board.board.rows, ∃ c ∈ s.calls.active,
    c.service = r.service ∧ c.state ≠ .departed ∧ c.state ≠ .lapsed

/-- The notices and the mask of a port name notices of that port (R186, R201); its framing state between transactions is
IDLE or DISCARD, with no octets (R187). -/
structure PortInv (port : Port) (p : PortState) : Prop where
  notices : p.notices &&& ~~~(noticePositions port) = 0
  mask : p.mask &&& ~~~(noticePositions port) = 0
  framing : p.framing = .idle ∨ p.framing = .discard
  octets : p.octets = []

end Sys2Proof.Machine
end

