-- ==== Sys2Proof/Certificates/Slice0/Obligations.lean ====
section
/-! DEFINITION. The statements for the provers: what each command of the HC7 does by the manual's rules, and the invariants every
step keeps. A docstring names the rules a statement formalises; a log entry it names is a choice of the model's, which no rule
states. -/

open Sys2Proof Sys2Proof.Machine

/-! ## The queue of commands -/

/-- The model's choice (log 3, log 30): `step` carries out the command at the front with the rest of the queue behind it,
and idles on an empty queue. -/
def Obligations.StepTakesFront : Prop :=
  (∀ (c : Instr) (rest : List Instr) (s : State),
    step { s with pending := c :: rest } = exec c { s with pending := rest }) ∧
  ∀ s : State, s.pending = [] → step s = .next s

/-- Each step of the table is whole (95): every command, in every state, answers a next state, and leaves the queue of
waiting commands as it was. No command faults and none is refused. What a command does where its event cannot happen is the
model's choice (log 1). -/
def Obligations.EveryCommandCompletes : Prop :=
  ∀ (c : Instr) (s : State), ∃ t, exec c s = .next t ∧ t.pending = s.pending

/-! ## Frames on the line -/

/-- R110, R111: after 6 marks or more, the receiver that is fed the symbols of a stuffed frame whose length octet is right
and at most 40 holds exactly its octets if the check is right, and a bad check otherwise; a stuffed space after the last
symbol is absorbed. That the marks after it are counted from 0 is deduced (log 13). -/
def Obligations.ReceiverReadsFrame : Prop :=
  ∀ (addr kind : Byte) (payload check : List Byte) (r : Receiver),
    payload.length ≤ 40 → check.length = 2 → r.marks = 6 → r.phase.inFrame = false →
    ((stuff 0 (false :: bitsOf (frameBody addr kind payload ++ check))).map toSymbol).foldl rxSymbol r
      = { marks := 0
          phase := if check = crcBytes (frameBody addr kind payload) then .valid (frameBody addr kind payload)
            else .bad .check }

/-! ## Resets (chapters 00, 03, 06, 10) -/

/-- A full reset with LOSS set is a cold start (R66): the whole state after it. Fares and stores at their defaults, banks
empty, time UNSET, the SERIAL_ASK and SERIAL_LOW of the low-water test (R107), the link HUNT under straps of 1..15 and DARK
under 0 (R120), the monitor BLIND under OCC (R167), the ports by their SEL pins (R186, R199); a port whose reset line is low
latches nothing (R193). The record of DOUT, the count of crystal ticks, the pins as operands, and the count of wakes are the
model's (logs 17, 19, 25, 15), and so is that no first symbol is recorded (log 6); that the receiver counts marks from 0 and
that no JOIN is pending are deduced (logs 13, 37). -/
def Obligations.ColdStart : Prop :=
  ∀ (pins : ResetPins) (s : State), s.clock.loss = true →
    exec (.fullReset pins) s = .next
      { calls := { active := [], next := [], nextState := .empty }
        board := { board := { condition := .normal, textCode := 0, notSet := true, rows := [] }, revision := 0 }
        clock := Clock.reset
        fares := FareTable.defaults
        issue := { Issue.reset with askTimer := some Config.askRepeat }
        line := { Line.reset with
          routine := [.serialAsk 0]
          address := pins.straps.toNat
          link := if pins.straps = 0 then .dark else .hunt }
        platform := { Platform.reset with occ := pins.occ, state := if pins.occ then .blind else .clear }
        screen := Screen.reset
        vport := { PortState.reset with
          held := s.vport.held
          selLow := pins.vselLow
          framing := if pins.vselLow then .discard else .idle
          notices := if s.vport.held then 0 else VNotice.serialLow.bit }
        sport := { PortState.reset with
          held := s.sport.held
          selLow := pins.sselLow
          framing := if pins.sselLow then .discard else .idle }
        wakes := s.wakes
        pending := s.pending }

/-- A full reset with LOSS clear is a warm start: the whole state after it, on sound banks and stops. R65, R105, R120, R138:
the retained store is kept, the time of day moved on by the ticks of the reset, the day number by its wraps, the time state
from the set marker, the drain back at the head of the journal. A rollover owed, by the marker or by a wrap, is carried out
once (R65, R22, R23). No acknowledgement timer runs and a stop that was SENT is WANTED again (R24); every call is recomputed
and evaluated (R35 to R38); the waiting stops are offered in the order of R20; with OCC released, a call found in ARRIVED
departs, or is unmatched where the rollover has taken it (R168). All else is at its reset values: the counts, the class map
and the thresholds (R113, R128, R130), the monitor (R167), the sequencer, awake only where demand holds (R176, R185), the
ports with the notices of the start actions (R186, R193, R199), the board (R40), and the low-water test (R96, R105). The
order of the start actions is the model's (logs 9, 10); so are the record of DOUT, the count of crystal ticks, the pins as
operands, the count of wakes (logs 17, 19, 25, 15), and that no first symbol is recorded (log 6); that the receiver counts
marks from 0, that no JOIN is pending, and that AD, EA and ED are the whole second of the release, and that the withdrawal
of the departing call's STOP_REQUEST is followed by no offer of a waiting stop are deduced (logs 13, 37, 20, 12); which of
several calls in ARRIVED, which no run reaches, is held over is the model's choice (log 24). -/
def Obligations.WarmStartKeeps : Prop :=
  ∀ (pins : ResetPins) (s : State), s.clock.loss = false → BankInv s → StopInv s →
    let total := s.clock.time.ticks + pins.heldTicks
    let isSet := s.clock.setMarker
    let now := total % 1382400 / 16
    let wraps := if isSet then total / 1382400 else 0
    let newDay : Bool := s.clock.owed || 0 < wraps
    let isComplete : Bool := s.calls.nextState = .complete
    let left := (s.issue.blocks.map Block.count).sum
    let held : Option Nat := (s.calls.active.find? fun c => c.state = .arrived).map fun c => c.service
    let departs : Option Nat := if pins.occ then none else held
    let leaves (n : Nat) : Bool := !newDay && departs = some n
    let bank : List Call :=
      if newDay then (if isComplete then s.calls.next else s.calls.active).map Call.cleared
      else s.calls.active.map fun c => { c with stop := if c.stop = .sent then .wanted else c.stop, ackTimer := none }
    let ran : List Call := bank.map fun c =>
      let d := recompute c
      if isSet && (d.state = .scheduled || d.state = .due) then
        { d with state :=
          if (approach d).any fun a => a + s.line.params.attribution < now then .lapsed
          else if (approach d).any fun a => a ≤ now + s.line.params.dueWindow then .due
          else .scheduled }
      else d
    ∃ (order : List Call) (t : State), exec (.fullReset pins) s = .next t ∧
      order.Perm (ran.filter fun c =>
        (c.state = .scheduled || c.state = .due || c.state = .arrived) && c.stop = .wanted) ∧
      order.Pairwise (fun c d => ∀ a b, approach c = some a → approach d = some b →
        a < b ∨ (a = b ∧ c.service ≤ d.service)) ∧
      let stops : List Item := ((order.take 16).filter fun c => !leaves c.service).map fun c =>
        .stopRequest c.service c.origin c.wantedAt
      let time : Option Nat := if isSet then some now else none
      let departure : List Item := match departs with
        | none => []
        | some n => [if newDay then .observation .unmatchedDeparture none time else .observation .departure (some n) time]
      t = { calls :=
              { active := ran.map fun c =>
                  if leaves c.service then
                    { c with
                      state := .departed
                      ad := some now
                      ea := c.sa.bind fun _ => if c.passed then some now else c.aa
                      ed := c.sd.map fun _ => now
                      beyond := false }
                  else c
                next := if newDay && isComplete then [] else s.calls.next
                nextState := if newDay && isComplete then .empty else s.calls.nextState }
            board := { board := buildBoard t, revision := 0 }
            clock := { Clock.reset with
              time := { sec := now, tick := total % 16 }
              day := s.clock.day + BitVec.ofNat 16 wraps
              setMarker := isSet
              timeState := if isSet then .holdover else .unset
              startKind := .warm }
            fares := s.fares
            issue := { Issue.reset with
              blocks := s.issue.blocks
              journal := s.issue.journal
              sequence := s.issue.sequence
              askTimer := if left < 50 then some 4800 else none }
            line := { Line.reset with
              params := s.line.params
              condition := s.line.condition
              textCode := s.line.textCode
              cursor := s.issue.journal.head?.map Ticket.sequence
              highestSent := match s.issue.journal with
                | x :: _ => x.sequence - 1
                | [] => s.issue.sequence
              link := if pins.straps = 0 then .dark else .hunt
              address := pins.straps.toNat
              tableReused := newDay && !isComplete
              urgent := stops ++ if stops.length < 16 then departure else []
              routine := (if newDay && !isComplete then [.status] else []) ++ if left < 50 then [.serialAsk left] else []
              discards := if stops.length < 16 then 0 else departure.length }
            platform := { Platform.reset with
              occ := pins.occ
              state := if pins.occ then .blind else .clear
              heldOver := if pins.occ then held else none }
            screen := if demand t then
                { Screen.reset with supply := .powering, sigpwr := true, readyTimer := some 160 }
              else Screen.reset
            vport := { PortState.reset with
              held := s.vport.held
              selLow := pins.vselLow
              framing := if pins.vselLow then .discard else .idle
              notices := if left < 50 ∧ s.vport.held = false then 0x0008#16 else 0 }
            sport := { PortState.reset with
              held := s.sport.held
              selLow := pins.sselLow
              framing := if pins.sselLow then .discard else .idle }
            wakes := s.wakes + if demand t then 1 else 0
            pending := s.pending }

/-- VBAK_LOW sets LOSS (R64). A reset line that goes low holds its port and ends an open transaction (R187, R196); the line
of the signage port that returns high resets the port and clears the quiet flag (R179, R197); SEL rising in DISCARD makes a
port that heeds it IDLE (R187), and one that is held in reset or unpowered disregards it, only its pin being high (R196,
R198). Nothing else changes. VRSTn returning high resets the vending port and removes the pending sale, on which demand is
evaluated; a hold in ASKED is granted by the removal, and its HOLD_CHANGED is then the one notice pending (R106, R176,
R196). In DARK, a strap reading of 1..15 is the address and moves the link to HUNT, latching LINK_STATE (R119, R120); in any
other link state the straps have no effect. That a command whose event cannot happen changes nothing, and that a hold or a
reset is carried out on a port whose line is already there, are the model's choices (log 1), the level of SEL is an operand
(log 15), and the record of DOUT stands (log 17). -/
def Obligations.PinsAndPortResets : Prop :=
  ((∀ s : State, exec .vbakLow s = .next { s with clock := { s.clock with loss := true } }) ∧
  (∀ (low : Bool) (s : State), exec (.vendingPortHold low) s = .next { s with vport :=
    { s.vport with
      held := true
      selLow := low
      framing := if low then .discard else s.vport.framing
      octets := if low then [] else s.vport.octets } }) ∧
  (∀ (low : Bool) (s : State), exec (.signagePortHold low) s = .next { s with sport :=
    { s.sport with
      held := true
      selLow := low
      framing := if low && s.screen.sigpwr then .discard else s.sport.framing
      octets := if low && s.screen.sigpwr then [] else s.sport.octets } }) ∧
  (∀ (low : Bool) (s : State), exec (.signagePortReset low) s = .next { s with
    sport := { PortState.reset with
      selLow := low, framing := if low then .discard else .idle, dout := s.sport.dout }
    screen := { s.screen with quiet := false } }) ∧
  (∀ (p : Port) (s : State), (portOf s p).framing = .discard → listening s p = true →
    exec (.selRisesInDiscard p) s = .next (setPort s p (portOf s p).idle)) ∧
  (∀ (p : Port) (s : State), (portOf s p).framing = .discard → listening s p = false →
    exec (.selRisesInDiscard p) s = .next (setPort s p { portOf s p with selLow := false })) ∧
  ∀ (p : Port) (s : State), (portOf s p).framing ≠ .discard → exec (.selRisesInDiscard p) s = .next s) ∧
  (∀ (low : Bool) (s : State),
    let reset : PortState := { PortState.reset with
      selLow := low, framing := if low then .discard else .idle, dout := s.vport.dout }
    (s.issue.sale = none → exec (.vendingPortReset low) s = .next { s with vport := reset }) ∧
    (s.issue.sale.isSome = true → s.issue.hold ≠ .asked → exec (.vendingPortReset low) s = .next (evalDemand { s with
      issue := { s.issue with sale := none }
      vport := reset })) ∧
    (s.issue.sale.isSome = true → s.issue.hold = .asked → exec (.vendingPortReset low) s = .next (evalDemand { s with
      issue := { s.issue with sale := none, hold := .held, limitTimer := some 9600 }
      line := s.line.enqueue s.line.classMap.hold .holdGranted
      vport := { reset with notices := 0x0004#16 } }))) ∧
  (∀ (straps : BitVec 4) (s : State), s.line.link = .dark → straps ≠ 0 →
    exec (.strapRead straps) s = .next { s with
      line := { s.line with
        address := straps.toNat
        link := .hunt
        tx := none
        statusOwed := if s.line.tx.any TxFrame.carriesStatus then false else s.line.statusOwed
        urgentThreshold := 6
        routineThreshold := 11
        faultRun := 0
        resume := false
        joinTimer := none
        admissionTimer := none
        silenceTimer := none
        lostTimer := none
        statusTimer := none }
      vport := s.vport.latch 0x0080#16 }) ∧
  ∀ (straps : BitVec 4) (s : State), s.line.link ≠ .dark ∨ straps = 0 → exec (.strapRead straps) s = .next s

/-! ## Fares (chapter 04) -/

/-- R77 to R80: the kind percentage, the product, the rounding to the nearest whole multiple of 10 with an exact 5 rounded
up, the concession minimum after rounding, and the range of the fare. -/
def Obligations.FareStages : Prop :=
  ∀ (f : FareTable) (z : Nat) (k : TicketKind) (c : Concession),
    FareInv f → 1 ≤ z → z ≤ 12 → c.discount ≤ 100 → c.minimum ≤ 2000 →
    let percent : Nat := match k with
      | .single => 100
      | .ret => f.block.ret
      | .dayReturn => f.block.ret * (100 - f.block.off) / 100
    let h := f.block.zones.getD (z - 1) 0 * percent * (100 - c.discount)
    ∃ r, r % 10 = 0 ∧ r = (h + 50000) / 100000 * 10 ∧ 10000 * r ≤ h + 50000 ∧ h < 10000 * r + 50000 ∧
      fareOf f.block z k c = max r c.minimum ∧ fareOf f.block z k c ≤ 50000

/-- R72, R73: a LOAD_FARE_DEST clamps its code and its zone count, and its effect and reply are those of the two checks. An
accepted load leaves every other destination's zone count as it was, and gives its own code the count, or none for 0. R72,
R74, R75: the loads of the price block and of a concession slot. -/
def Obligations.FareLoads : Prop :=
  (∀ (addr : Byte) (p : List Byte) (s : State), takesMessage s .loadFareDest addr p → p.length = 3 →
    let code := clamp 1 999 (field p 0 2)
    let zones := min (field p 2 1) 12
    let u := frameDone s
    (s.issue.hold ≠ .held →
      exec (.loadFareDest addr p) s = .next (offerReply .fareDest .notHeld (some code) u)) ∧
    (s.issue.hold = .held → zones = 0 ∨ (zoneOf s.fares.dests code).isSome = true ∨ s.fares.dests.length < 48 →
      ∃ dests, exec (.loadFareDest addr p) s
          = .next (offerReply .fareDest .accepted (some code) { u with fares := { s.fares with dests := dests } }) ∧
        ∀ c, zoneOf dests c
          = if c ≠ code then zoneOf s.fares.dests c else if zones = 0 then none else some zones) ∧
    (s.issue.hold = .held → zones ≠ 0 → zoneOf s.fares.dests code = none → 48 ≤ s.fares.dests.length →
      exec (.loadFareDest addr p) s = .next (offerReply .fareDest .tableFull (some code) u))) ∧
  (∀ (addr : Byte) (p : List Byte) (s : State), takesMessage s .loadFarePrice addr p → p.length = 32 →
    exec (.loadFarePrice addr p) s = .next
      (if s.issue.hold = .held then
        offerReply .farePrice .accepted none { frameDone s with fares := { s.fares with block :=
          { zones := (fields p 2 0 12).map fun v => min v 20000
            ret := clamp 100 250 (field p 24 1)
            off := min (field p 25 1) 90
            peakStart := min (field p 26 3) 86399
            peakEnd := min (field p 29 3) 86399 } } }
      else offerReply .farePrice .notHeld none (frameDone s))) ∧
  ∀ (addr : Byte) (p : List Byte) (s : State), takesMessage s .loadConcession addr p → p.length = 4 →
    let code := min (field p 0 1) 7
    (s.issue.hold ≠ .held →
      exec (.loadConcession addr p) s = .next (offerReply .concession .notHeld (some code) (frameDone s))) ∧
    (s.issue.hold = .held → code = 0 →
      exec (.loadConcession addr p) s = .next (offerReply .concession .badRecord (some 0) (frameDone s))) ∧
    (s.issue.hold = .held → code ≠ 0 → s.fares.slots.length = 8 →
      ∃ slots, exec (.loadConcession addr p) s
          = .next (offerReply .concession .accepted (some code) { frameDone s with fares := { s.fares with slots := slots } }) ∧
        slots.length = 8 ∧ (∀ k, k ≠ code → slots[k]? = s.fares.slots[k]?) ∧
        slots[code]? = some (if field p 1 1 = 255 then none
          else some { discount := min (field p 1 1) 100, minimum := min (field p 2 2) 2000 }))

/-! ## Platform monitor (chapter 08) -/

/-- R153, R154, R155, R166: what an edge of OCC does in each occupancy state, the whole state after it. An assertion in
CLEAR starts a SETTLING; a release in SETTLING discards it; a release in OCCUPIED, STOPPED or BLIND starts the release
filter with the moment, and a re-assertion ends a filter. A level the monitor already has changes only the pin. R154, R156,
R161: the settle timer makes the monitor OCCUPIED; a stop threshold that runs out in a release filter sets the marker; a
standing alarm acts only in STOPPED, and offers one STANDING to the queue the class map names (R163). That a level already
there changes only the pin, and that a discarded moment is absent, are the model's choices (logs 1, 23). -/
def Obligations.OccupancyFilters : Prop :=
  (∀ s : State,
    let m := s.platform
    let now : Stamp := { time := s.clock.time, isSet := decide (s.clock.timeState ≠ .unset) }
    (m.state = .clear →
      exec .occAsserted s = .next { s with platform := { m with
        occ := true
        state := .settling
        start := some now
        matched := none
        thresholdReached := false
        dayCrossed := false
        settleTimer := some 32
        stopTimer := some (16 * s.line.params.stopThreshold)
        standingTimer := some 9600 } } ∧
      exec .occReleased s = .next { s with platform := { m with occ := false } }) ∧
    (m.state = .settling →
      exec .occAsserted s = .next { s with platform := { m with occ := true } } ∧
      exec .occReleased s = .next { s with platform := { m with
        occ := false
        state := .clear
        start := none
        release := none
        matched := none
        settleTimer := none
        stopTimer := none
        standingTimer := none
        releaseTimer := none } }) ∧
    (m.state ≠ .clear ∧ m.state ≠ .settling →
      (m.releaseTimer = none →
        exec .occAsserted s = .next { s with platform := { m with occ := true } } ∧
        exec .occReleased s = .next { s with platform := { m with
          occ := false, release := some now, releaseTimer := some 32 } }) ∧
      (m.releaseTimer ≠ none →
        exec .occReleased s = .next { s with platform := { m with occ := false } } ∧
        (¬ (m.state = .occupied ∧ m.thresholdReached = true) →
          exec .occAsserted s = .next { s with platform := { m with
            occ := true, release := none, releaseTimer := none } })))) ∧
  ∀ s : State,
    let m := s.platform
    (m.state = .settling → m.settleTimer = some 0 →
      exec .settleExpiry s = .next { s with platform := { m with state := .occupied, settleTimer := none } }) ∧
    (m.state = .occupied → m.stopTimer = some 0 → m.releaseTimer ≠ none →
      exec .stopThresholdExpiry s = .next { s with platform := { m with stopTimer := none, thresholdReached := true } }) ∧
    (m.state = .stopped → m.standingTimer = some 0 →
      exec .standingExpiry s = .next { s with
        platform := { m with standingTimer := none }
        line := s.line.enqueue s.line.classMap.observation (.observation .standing m.matched
          (if s.clock.timeState = .unset then none else some s.clock.time.sec)) }) ∧
    (m.state ≠ .stopped → m.standingTimer = some 0 →
      exec .standingExpiry s = .next { s with platform := { m with standingTimer := none } })

/-- R157: no call is chosen for an occupancy whose start was recorded while the time was UNSET or whose day has been
crossed; else the choice is a call in SCHEDULED or DUE whose approach time lies within the attribution window of the start,
either side, and it comes before every other in the order of distance, scheduled approach time and service number; and a
call is chosen whenever there is a candidate. -/
def Obligations.AttributionChoice : Prop :=
  ∀ (s : State) (st : Stamp), s.platform.start = some st →
    let start := st.time.sec
    let w := s.line.params.attribution
    let isCandidate (c : Call) : Prop := c ∈ s.calls.active ∧ (c.state = .scheduled ∨ c.state = .due) ∧
      ∃ a, approach c = some a ∧ start ≤ a + w ∧ a ≤ start + w
    let away (a : Nat) : Nat := (Int.natAbs ((a : Int) - start))
    (st.isSet = false ∨ s.platform.dayCrossed = true → attributed s = none) ∧
    (st.isSet = true → s.platform.dayCrossed = false →
      (attributed s = none ↔ ∀ c, ¬ isCandidate c) ∧
      ∀ c, attributed s = some c → isCandidate c ∧
        ∀ d, isCandidate d → ∀ a b, approach c = some a → approach d = some b →
          away a < away b ∨ (away a = away b ∧ (schedApproach c < schedApproach d ∨
            (schedApproach c = schedApproach d ∧ c.service ≤ d.service))))

/-- R156, R158, R16, R30, R163: the stop threshold run out under OCC, or OCC asserted again after it had run out in a
release filter, makes the occupancy a STOP. The call chosen enters ARRIVED with AA the occupancy start and takes the ED of
R30; the monitor holds it, and offers ARRIVAL with it, or UNMATCHED_ARRIVAL with none; the board is rebuilt. That AA, EA and
ED are the whole second of the start is deduced (log 20), and that an unmatched STOP rebuilds the board and evaluates demand
is the model's choice (log 40). -/
def Obligations.StopDecided : Prop :=
  ∀ (c : Instr) (s : State) (st : Stamp), s.platform.state = .occupied → s.platform.start = some st →
    (c = .stopThresholdExpiry ∧ s.platform.stopTimer = some 0 ∧ s.platform.releaseTimer = none) ∨
      (c = .occAsserted ∧ s.platform.thresholdReached = true ∧ s.platform.releaseTimer ≠ none) →
    let time : Option Nat := if st.isSet then some st.time.sec else none
    let filtered : Platform :=
      if c = .occAsserted then { s.platform with occ := true, release := none, releaseTimer := none }
      else { s.platform with stopTimer := none }
    (∀ d, attributed s = some d → exec c s = .next (rebuild { s with
      calls := { s.calls with active := s.calls.active.map fun x =>
        if x.service = d.service then
          { x with
            state := .arrived
            aa := some st.time.sec
            ea := x.sa.map fun _ => st.time.sec
            ed := x.sd.map fun y => min (max y (st.time.sec + x.md)) 86399
            beyond := x.sd.any fun y => 86399 < max y (st.time.sec + x.md) }
        else x }
      platform := { filtered with state := .stopped, matched := some d.service }
      line := s.line.enqueue s.line.classMap.observation (.observation .arrival (some d.service) time) })) ∧
    (attributed s = none → exec c s = .next (rebuild { s with
      platform := { filtered with state := .stopped, matched := none }
      line := s.line.enqueue s.line.classMap.observation (.observation .unmatchedArrival none time) }))

/-- R17, R89, R132: what a call's leaving of the saleable states does: a QUOTED sale bound to it is VOID and QUOTE_VOID is
latched on the vending port unless that is held in reset; its STOP_REQUEST leaves the urgent queue, a frame on the line
going on but no longer at its item; its acknowledgement timer stops. Nothing else changes. That a withdrawal is followed by
no offer of the waiting stops is deduced (log 12). -/
def Obligations.LeavingSaleable : Prop :=
  ∀ (n : Nat) (s : State), ∃ t, leaveSaleable n s = t ∧
    t = { s with calls := t.calls, issue := t.issue, line := t.line, vport := t.vport } ∧
    (∀ x, s.issue.sale = some x → x.state = .quoted → x.call = some n →
      t.issue = { s.issue with sale := some { x with state := .void } } ∧
      t.vport = (if s.vport.held then s.vport else { s.vport with notices := s.vport.notices ||| 0x0002#16 })) ∧
    ((∀ x, s.issue.sale = some x → x.state = .void ∨ x.call ≠ some n) → t.issue = s.issue ∧ t.vport = s.vport) ∧
    t.line = { s.line with
      urgent := s.line.urgent.filter fun i => i.stopOf ≠ some n
      tx := if s.line.urgent.head?.bind Item.stopOf = some n then
          s.line.tx.map fun f => { f with queued := match f.source with
            | .urgentItem _ => false
            | .join | .routineItem _ | .sale _ => f.queued }
        else s.line.tx } ∧
    t.calls = { s.calls with active := s.calls.active.map fun c =>
      if c.service = n then { c with ackTimer := none } else c }

/-- R155, R156, R159, R16, R31: a release that persists in OCCUPIED makes the occupancy a PASS. The call chosen enters
DEPARTED with the passed flag, AD the occupancy start and the EA and ED of R31, and leaves the saleable states; PASS is
offered with it, or with no service number; the monitor is CLEAR and the board is rebuilt. R155, R160, R166, R168, R16, R31:
a release that persists in STOPPED, or in BLIND with a held-over call, ends the occupancy as the DEPARTURE of the matched or
held-over call, if the call is still ARRIVED: it enters DEPARTED with AD the release moment and the EA and ED of R31, leaves
the saleable states, and DEPARTURE is offered; else UNMATCHED_DEPARTURE is offered with no service number. In BLIND with no
held-over call only the monitor's state changes. That AD, EA and ED are the whole second of the start or the release is
deduced (log 20); that the moments of an ended occupancy are absent is the model's choice (log 23), and so is that an
unmatched PASS or DEPARTURE rebuilds the board and evaluates demand (log 40). -/
def Obligations.ReleasePersists : Prop :=
  (∀ (s : State) (st : Stamp), s.platform.state = .occupied → s.platform.start = some st →
    s.platform.releaseTimer = some 0 →
    let time : Option Nat := if st.isSet then some st.time.sec else none
    let u : State := { s with platform := { s.platform with
      state := .clear
      start := none
      release := none
      matched := none
      settleTimer := none
      stopTimer := none
      standingTimer := none
      releaseTimer := none } }
    (∀ d, attributed s = some d → exec .releaseTimerExpiry s = .next (rebuild
      (offerObservation .pass (some d.service) time (leaveSaleable d.service
        { u with calls := { s.calls with active := s.calls.active.map fun x =>
          if x.service = d.service then
            { x with
              state := .departed
              passed := true
              ad := some st.time.sec
              ea := x.sa.map fun _ => st.time.sec
              ed := x.sd.map fun _ => st.time.sec
              beyond := false }
          else x } })))) ∧
    (attributed s = none → exec .releaseTimerExpiry s = .next (rebuild (offerObservation .pass none time u)))) ∧
  ∀ (s : State) (st : Stamp), GoodBank s.calls.active → s.platform.releaseTimer = some 0 → s.platform.release = some st →
    let time : Option Nat := if st.isSet then some st.time.sec else none
    let m : Platform := { s.platform with
      state := .clear
      start := none
      release := none
      matched := none
      settleTimer := none
      stopTimer := none
      standingTimer := none
      releaseTimer := none }
    (∀ n u, (s.platform.state = .stopped ∧ s.platform.matched = some n ∧ u = { s with platform := m }) ∨
        (s.platform.state = .blind ∧ s.platform.heldOver = some n ∧
          u = { s with platform := { m with heldOver := none } }) →
      ((∃ c ∈ s.calls.active, c.service = n ∧ c.state = .arrived) →
        exec .releaseTimerExpiry s = .next (rebuild (offerObservation .departure (some n) time (leaveSaleable n
          { u with calls := { s.calls with active := s.calls.active.map fun x =>
            if x.service = n then
              { x with
                state := .departed
                ad := some st.time.sec
                ea := x.sa.bind fun _ => if x.passed then some st.time.sec else x.aa
                ed := x.sd.map fun _ => st.time.sec
                beyond := false }
            else x } })))) ∧
      ((∀ c ∈ s.calls.active, c.service = n → c.state ≠ .arrived) →
        exec .releaseTimerExpiry s = .next (rebuild (offerObservation .unmatchedDeparture none time u)))) ∧
    (s.platform.state = .stopped → s.platform.matched = none →
      exec .releaseTimerExpiry s
        = .next (rebuild (offerObservation .unmatchedDeparture none time { s with platform := m }))) ∧
    (s.platform.state = .blind → s.platform.heldOver = none → exec .releaseTimerExpiry s = .next { s with platform := m })

/-- R164, R165, R19: a press is ignored within 16 crystal ticks of the last accepted one. An accepted press records its
moment, latches STOP_BUTTON and starts the button demand at 120 s; and it binds the first REQUEST call in SCHEDULED or DUE,
in order of approach time and service number, whose approach time lies in the next 3,600 s. Bound in stop state NONE, that
call becomes WANTED before its request cut-off, and a STOP_REQUEST is offered, or LATE; the board is rebuilt. With no call
bound, or one whose stop is decided, demand alone is evaluated. That demand is evaluated once, at the end of the press, is
the model's choice (log 41). -/
def Obligations.ButtonPress : Prop :=
  ∀ s : State, GoodBank s.calls.active →
    let isNew : Prop := ∀ t, s.platform.lastPress = some t → t + 16 ≤ s.clock.crystal
    let now := s.clock.time.sec
    let u : State := { s with
      platform := { s.platform with lastPress := some s.clock.crystal, buttonDemand := some 1920 }
      sport := s.sport.latch 0x0008#16 }
    let fits (c : Call) (a : Nat) : Prop := c ∈ s.calls.active ∧ c.kind = .request ∧
      (c.state = .scheduled ∨ c.state = .due) ∧ approach c = some a ∧ now ≤ a ∧ a ≤ now + 3600
    (¬ isNew → exec .buttonPress s = .next s) ∧
    (isNew → (s.clock.timeState = .unset ∨ ∀ c a, ¬ fits c a) → exec .buttonPress s = .next (evalDemand u)) ∧
    (isNew → s.clock.timeState ≠ .unset → ∀ c a, fits c a →
      (∀ d b, fits d b → a < b ∨ (a = b ∧ c.service ≤ d.service)) →
      (c.stop ≠ .none → exec .buttonPress s = .next (evalDemand u)) ∧
      (c.stop = .none →
        let isEarly : Prop := now + s.line.params.requestMargin < a
        let asked : State := { u with calls := { s.calls with active := s.calls.active.map fun x =>
          if x.service = c.service then { c with
            stop := if now + s.line.params.requestMargin < a then .wanted else .late
            origin := some .button
            wantedAt := some now }
          else x } }
        (isEarly → exec .buttonPress s = .next (rebuild (offerStops asked))) ∧
        (¬ isEarly → exec .buttonPress s = .next (rebuild asked))))

/-! ## Time base (chapter 03) -/

/-- R51, R61: a crystal tick at which no set clock wraps: every crystal-timed duration counts one tick, and the time of day
goes on by one tick, wrapping past 86,399 s and tick 15, unless a slew deficit is being spent and this is the first of its
two ticks (log 7), which takes one off the deficit. Nothing else changes. Timers are held as ticks left (log 2), the
settling stages are not counted (log 14), and the count of crystal ticks is not bounded (log 19). -/
def Obligations.CrystalTickCounts : Prop :=
  ∀ s : State, s.clock.time.InRange →
    let moves : Bool := s.clock.slew = 0 || s.clock.slewHalf
    let less (t : Timer) : Timer := t.map fun n => n - 1
    let c := s.clock
    ¬ (moves = true ∧ c.time.sec = 86399 ∧ c.time.tick = 15 ∧ c.timeState ≠ .unset) →
    exec .crystalTick s = .next { s with
      calls := { s.calls with active := s.calls.active.map fun x => { x with ackTimer := less x.ackTimer } }
      clock := { c with
        crystal := c.crystal + 1
        holdover := less c.holdover
        slew := if moves then c.slew else c.slew - 1
        slewHalf := !moves
        time :=
          if !moves then c.time
          else if c.time.tick < 15 then { c.time with tick := c.time.tick + 1 }
          else if c.time.sec < 86399 then { sec := c.time.sec + 1, tick := 0 }
          else { sec := 0, tick := 0 } }
      issue := { s.issue with
        sale := s.issue.sale.map fun x => { x with lapse := x.lapse - 1 }
        limitTimer := less s.issue.limitTimer
        askTimer := less s.issue.askTimer
        quoteDemand := less s.issue.quoteDemand }
      line := { s.line with
        joinTimer := less s.line.joinTimer
        admissionTimer := less s.line.admissionTimer
        silenceTimer := less s.line.silenceTimer
        lostTimer := less s.line.lostTimer
        saleAckTimer := less s.line.saleAckTimer
        statusTimer := less s.line.statusTimer }
      platform := { s.platform with
        settleTimer := less s.platform.settleTimer
        stopTimer := less s.platform.stopTimer
        standingTimer := less s.platform.standingTimer
        releaseTimer := less s.platform.releaseTimer
        buttonDemand := less s.platform.buttonDemand }
      screen := { s.screen with
        readyTimer := less s.screen.readyTimer
        idleTimer := less s.screen.idleTimer
        retryTimer := less s.screen.retryTimer
        window := s.screen.window - 1 } }

/-- R57, R51: a slew deficit of d ticks is spent over 2 × d crystal ticks, in which the time of day gains d ticks. -/
def Obligations.SlewIsSpent : Prop :=
  ∀ c : Clock, c.slewHalf = false → c.time.InRange →
    (List.range (2 * c.slew)).foldl (fun d _ => tickClock d) c
      = { c with slew := 0, time := TimeOfDay.ofTicks (c.time.ticks + c.slew) }

/-- R59, R22, R23, R162, R61: the crystal tick at which a set clock wraps, which the command ROLLOVER names too (log 18),
the whole state after it. The time is 0 and the day number has risen; every crystal-timed duration counts the tick. The
calls are those of a COMPLETE NEXT bank, which is then EMPTY, or else the ending bank re-armed, each with its live fields
cleared, recomputed, and evaluated at 0. A QUOTED sale bound to a call of the ended day that was saleable is VOID, with
QUOTE_VOID latched. Every STOP_REQUEST leaves the urgent queue, the other items closing up, and a frame on the line goes on.
A re-arm sets the table-reused flag, marks a STATUS frame on the line, and is a cause of a STATUS. The monitor marks an
occupancy not yet decided. The board is rebuilt. Timers are held as ticks left (log 2), the board is built once (log 8), the
settling stages are not counted (log 14), the count of crystal ticks is not bounded (log 19), and that a withdrawal is
followed by no offer of the waiting stops is deduced (log 12). -/
def Obligations.RolloverAtDayEnd : Prop :=
  ∀ (s : State) (cmd : Instr), cmd = .crystalTick ∨ cmd = .rollover →
    BankInv s → StopInv s → s.clock.timeState ≠ .unset → s.clock.time = { sec := 86399, tick := 15 } →
    (s.clock.slew = 0 ∨ s.clock.slewHalf = true) →
    let less (t : Timer) : Timer := t.map fun n => n - 1
    let isComplete : Bool := s.calls.nextState = .complete
    let voided : Bool := s.issue.sale.any fun x => x.state = .quoted &&
      x.call.any fun n => s.calls.active.any fun c => c.service = n && c.state.saleable
    let ended : Line := { s.line with
      joinTimer := less s.line.joinTimer
      admissionTimer := less s.line.admissionTimer
      silenceTimer := less s.line.silenceTimer
      lostTimer := less s.line.lostTimer
      saleAckTimer := less s.line.saleAckTimer
      statusTimer := less s.line.statusTimer
      urgent := s.line.urgent.filter fun i => i.stopOf = none
      tx := if s.line.urgent.head?.any (fun i => i.stopOf ≠ none) = true then
          s.line.tx.map fun f => { f with queued := match f.source with
            | .urgentItem _ => false
            | .join | .routineItem _ | .sale _ => f.queued }
        else s.line.tx }
    let opened : State := { s with
      calls :=
        { active := (if isComplete then s.calls.next else s.calls.active).map fun c =>
            let d := recompute
              { toScheduled := c.toScheduled
                state := .scheduled
                notice := none
                ea := none
                ed := none
                aa := none
                ad := none
                passed := false
                beyond := false
                sold := 0
                stop := .none
                origin := none
                wantedAt := none
                ackTimer := none }
            { d with state :=
              if (approach d).any fun a => a ≤ s.line.params.dueWindow then .due else .scheduled }
          next := if isComplete then [] else s.calls.next
          nextState := if isComplete then .empty else s.calls.nextState }
      clock := { s.clock with
        time := { sec := 0, tick := 0 }
        day := s.clock.day + 1
        crystal := s.clock.crystal + 1
        holdover := less s.clock.holdover
        slewHalf := false }
      issue := { s.issue with
        sale := s.issue.sale.map fun x =>
          { x with lapse := x.lapse - 1, state := if voided then .void else x.state }
        limitTimer := less s.issue.limitTimer
        askTimer := less s.issue.askTimer
        quoteDemand := less s.issue.quoteDemand }
      line := if isComplete then ended
        else { ended with
          tableReused := true
          tx := ended.tx.map fun f =>
            if f.source = .urgentItem .status ∨ f.source = .routineItem .status then { f with rearmed := true } else f }
      platform := { s.platform with
        settleTimer := less s.platform.settleTimer
        stopTimer := less s.platform.stopTimer
        standingTimer := less s.platform.standingTimer
        releaseTimer := less s.platform.releaseTimer
        buttonDemand := less s.platform.buttonDemand
        dayCrossed := s.platform.dayCrossed || s.platform.state = .settling || s.platform.state = .occupied }
      screen := { s.screen with
        readyTimer := less s.screen.readyTimer
        idleTimer := less s.screen.idleTimer
        retryTimer := less s.screen.retryTimer
        window := s.screen.window - 1 }
      vport := if voided then s.vport.latch 0x0002#16 else s.vport }
    exec cmd s = .next (rebuild (if isComplete then opened else statusCause opened))

/-- R53, R54, R52: a beacon taken in UNSET, in SYNCED or ADMITTED, whose branch condition is the one stored: the time is
that of the beacon and the ticks since its first symbol, the day number is the beacon's, the time state is LOCKED;
TIME_STATE is latched on both ports, every call is recomputed and evaluated, and the board is rebuilt. R62, R52, R37:
SET_TIME without the hold is refused with NOT_HELD. In HELD it sets the time, at tick 0, and the day number, ends a slew,
locks the time and starts the holdover timer at 600 s, latching TIME_STATE if the time was not LOCKED; a call in LAPSED
keeps its times if the time was set, every other call is recomputed; all are evaluated, and the board is rebuilt. The day
number is the beacon's where the sum passes the end of the day (log 21), the board is built once (log 8), the record of the
first symbol is cleared by the beacon (log 6), the ticks of a slew are paired afresh (log 7), and the reply of a SET_TIME is
offered last (log 39). -/
def Obligations.TimeIsSet : Prop :=
  (∀ (addr : Byte) (p : List Byte) (b : BeaconFields) (f : FrameStart) (s : State),
    takesMessage s .beacon addr p → readBeacon p = some b → s.clock.timeState = .unset →
    s.clock.frameStart = some f → f.disturbed = false → s.line.link = .synced ∨ s.line.link = .admitted →
    b.condition = s.line.condition → b.textCode = s.line.textCode →
    let total := b.time.ticks + (s.clock.crystal - f.crystal)
    exec (.beacon addr p) s = .next (rebuild (recomputeAll (latchS .timeState (latchV .timeState { frameDone s with
      clock := { s.clock with
        time := { sec := total / 16 % 86400, tick := total % 16 }
        day := b.day
        slew := 0
        slewHalf := false
        setMarker := true
        holdover := some 9600
        timeState := .locked
        frameStart := none } }))))) ∧
  ∀ (addr : Byte) (p : List Byte) (s : State), takesMessage s .setTime addr p → p.length = 5 →
    (s.issue.hold ≠ .held → exec (.setTime addr p) s = .next (offerReply .time .notHeld none (frameDone s))) ∧
    (s.issue.hold = .held →
      let u : State := { frameDone s with
        clock := { s.clock with
          time := { sec := min (field p 0 3) 86399, tick := 0 }
          day := BitVec.ofNat 16 (field p 3 2)
          slew := 0
          slewHalf := false
          timeState := .locked
          setMarker := true
          holdover := some 9600
          frameStart := s.clock.frameStart.map fun f => { f with disturbed := true } }
        calls := { s.calls with active := s.calls.active.map fun c =>
          if s.clock.timeState ≠ .unset ∧ c.state = .lapsed then c else recompute c } }
      exec (.setTime addr p) s = .next (offerReply .time .accepted none (rebuild (evaluateAll
        (if s.clock.timeState = .locked then u else latchS .timeState (latchV .timeState u))))))

/-- R53, R55, R56, R57, R60: a beacon taken with the time set, its offset reduced by whole days. Beyond 900 s it is
disputed: only the dispute count rises, and a STATUS is caused. From −900 s to +1 tick it leaves the time of day, sets the
deficit to the ticks by which the clock is ahead, or 0, locks the time and starts the holdover timer at 600 s; and the held
day number is the beacon's, one more where the clock has rolled over and the beacon has not, one less where the beacon has.
That the record of the first symbol is then cleared and that a slew begins at the first of its pair of ticks are the model's
choices (logs 6, 7), and the day number of a beacon whose frame spans the end of the day is deduced (log 21). -/
def Obligations.BeaconMeasured : Prop :=
  ∀ (addr : Byte) (p : List Byte) (b : BeaconFields) (f : FrameStart) (s : State) (off k : Int),
    takesMessage s .beacon addr p → readBeacon p = some b → s.clock.timeState ≠ .unset →
    s.clock.frameStart = some f → f.disturbed = false → f.localTime.InRange →
    s.line.link = .synced ∨ s.line.link = .admitted →
    b.condition = s.line.condition → b.textCode = s.line.textCode →
    -691200 ≤ off → off ≤ 691199 → (b.time.ticks : Int) - f.localTime.ticks = off + 1382400 * k →
    (off < -14400 ∨ 14400 < off → exec (.beacon addr p) s = .next (statusCause { frameDone s with
      clock := { s.clock with
        disputes := if s.clock.disputes < 255 then s.clock.disputes + 1 else 255, frameStart := none } })) ∧
    (-14400 ≤ off ∧ off ≤ 1 →
      let u : State := { frameDone s with clock := { s.clock with
        timeState := .locked
        setMarker := true
        holdover := some 9600
        slew := if off < -1 then (-off).toNat else 0
        slewHalf := false
        day := b.day + BitVec.ofInt 16 k
        frameStart := none } }
      (s.clock.timeState = .locked → exec (.beacon addr p) s = .next u) ∧
      (s.clock.timeState = .holdover →
        exec (.beacon addr p) s = .next (rebuild (latchS .timeState (latchV .timeState u)))))

/-- R55, R56, R59, R60: a beacon that finds the clock from 2 ticks to 900 s behind steps it forward by the offset; a step
past the end of the day raises rollover, with the day number one up, before the calls are evaluated at the new time. That
the record of the first symbol is then cleared, the board built once and the ticks of a slew paired afresh are the model's
choices (logs 6, 8, 7), and the day number of a beacon whose frame spans the end of the day is deduced (log 21). -/
def Obligations.ForwardStep : Prop :=
  ∀ (addr : Byte) (p : List Byte) (b : BeaconFields) (f : FrameStart) (s : State) (off : Nat) (k : Int),
    takesMessage s .beacon addr p → readBeacon p = some b → s.clock.timeState ≠ .unset →
    s.clock.frameStart = some f → f.disturbed = false → f.localTime.InRange → s.clock.time.InRange →
    s.line.link = .synced ∨ s.line.link = .admitted →
    b.condition = s.line.condition → b.textCode = s.line.textCode →
    2 ≤ off → off ≤ 14400 → (b.time.ticks : Int) - f.localTime.ticks = off + 1382400 * k →
    let total := s.clock.time.ticks + off
    let stepped (c : Clock) : Clock := { c with
      time := { sec := total / 16 % 86400, tick := total % 16 }
      slew := 0
      slewHalf := false
      frameStart := none }
    let locked (u : State) : State :=
      let v : State := { u with clock := { u.clock with
        timeState := .locked, setMarker := true, holdover := some 9600, day := b.day } }
      if s.clock.timeState = .locked then v else latchS .timeState (latchV .timeState v)
    (total < 1382400 → exec (.beacon addr p) s = .next (rebuild (evaluateAll (locked
      { frameDone s with clock := stepped s.clock })))) ∧
    (1382400 ≤ total → exec (.beacon addr p) s = .next (rebuild (evaluateAll (locked
      (rolloverCalls { frameDone s with clock := { stepped s.clock with day := s.clock.day + 1 } })))))

/-- R53 to R56, R59, R60, R121, R125, R146: what every beacon taken does. It moves the link from HUNT to SYNCED and from
LOST to ADMITTED or SYNCED by the resume flag; a branch condition or text code that differs is stored, with CONDITION
latched on both ports and the board rebuilt; and then it acts on the time. A stale beacon leaves the time alone. In UNSET it
sets the time, beyond 900 s it is disputed, from −900 s to +1 tick it leaves the time of day and sets the slew, and from 2
ticks to 900 s it steps the clock forward, raising rollover past the end of the day: each by the record of the frame's first
symbol. R53, R136, R200: the fields of a beacon, its seconds and its tick clamped, and a beacon of another length or with a
condition beyond the list, which is a bad frame. That a beacon is measured by the latest record, or from the moment it is
taken where there is none, and that the record is then cleared, are the model's choices (log 6), and so is that a slew
begins at the first of its pair of ticks (log 7); so are the two builds of a beacon that changes the condition and the time
(log 8); and the day number of a beacon that spans the end of the day is deduced (log 21). -/
def Obligations.StaleBeacon : Prop :=
  (∀ (addr : Byte) (p : List Byte) (s : State), takesMessage s .beacon addr p →
    (p.length ≠ 8 ∨ 3 < field p 6 1 → exec (.beacon addr p) s = .next (countBad (frameDone s))) ∧
    (p.length = 8 → field p 6 1 ≤ 3 →
      let b : BeaconFields :=
        { time := { sec := min (field p 0 3) 86399, tick := min (field p 3 1) 15 }
          day := BitVec.ofNat 16 (field p 4 2)
          condition := match field p 6 1 with
            | 0 => .normal
            | 1 => .disrupted
            | 2 => .suspended
            | _ => .closed
          textCode := field p 7 1 }
      let u := frameDone s
      let v : State := match s.line.link with
        | .hunt => setLink .synced u
        | .lost => if s.line.resume then setLink .admitted u else setLink .synced u
        | .dark | .synced | .admitted => u
      readBeacon p = some b ∧
      (b.condition = s.line.condition ∧ b.textCode = s.line.textCode →
        exec (.beacon addr p) s = .next (beaconTime b v)) ∧
      (b.condition ≠ s.line.condition ∨ b.textCode ≠ s.line.textCode →
        exec (.beacon addr p) s = .next (beaconTime b (rebuild { v with
          line := { v.line with condition := b.condition, textCode := b.textCode }
          vport := v.vport.latch 0x0040#16
          sport := v.sport.latch 0x0002#16 }))))) ∧
  ∀ (b : BeaconFields) (s : State), b.time.InRange →
    let f : FrameStart := match s.clock.frameStart with
      | some x => x
      | none => { localTime := s.clock.time, crystal := s.clock.crystal, disturbed := false }
    let u : State := { s with clock := { s.clock with frameStart := none } }
    let lock (v : State) : State :=
      let w : State := { v with clock := { v.clock with timeState := .locked, setMarker := true, holdover := some 9600 } }
      if s.clock.timeState = .locked then w else latchS .timeState (latchV .timeState w)
    (f.disturbed = true → beaconTime b s = u) ∧
    (f.disturbed = false → s.clock.timeState = .unset →
      let total := b.time.ticks + (s.clock.crystal - f.crystal)
      beaconTime b s = rebuild (recomputeAll (lock { u with
        clock := { u.clock with
          time := { sec := total / 16 % 86400, tick := total % 16 }
          day := b.day
          slew := 0
          slewHalf := false } }))) ∧
    (f.disturbed = false → s.clock.timeState ≠ .unset → f.localTime.InRange → s.clock.time.InRange → ∀ off k : Int,
      -691200 ≤ off → off ≤ 691199 → (b.time.ticks : Int) - f.localTime.ticks = off + 1382400 * k →
      (off < -14400 ∨ 14400 < off → beaconTime b s = statusCause { u with
        clock := { u.clock with disputes := if s.clock.disputes < 255 then s.clock.disputes + 1 else 255 } }) ∧
      (-14400 ≤ off ∧ off ≤ 1 →
        let w := lock { u with clock := { u.clock with
          slew := if off < -1 then (-off).toNat else 0, slewHalf := false, day := b.day + BitVec.ofInt 16 k } }
        beaconTime b s = if s.clock.timeState = .holdover then rebuild w else w) ∧
      (2 ≤ off ∧ off ≤ 14400 →
        let total := s.clock.time.ticks + off.toNat
        let stepped : State := { u with clock := { u.clock with
          time := { sec := total / 16 % 86400, tick := total % 16 }, slew := 0, slewHalf := false } }
        let rolled : State :=
          if total < 1382400 then stepped
          else rolloverCalls { stepped with clock := { stepped.clock with day := s.clock.day + 1 } }
        beaconTime b s = rebuild (evaluateAll (lock { rolled with clock := { rolled.clock with day := b.day } }))))

/-- R58: the holdover timer that runs out in LOCKED makes the time state HOLDOVER, with TIME_STATE latched on both ports and
the board rebuilt. R53, R111: the space that arrives after 6 consecutive marks, in every link state except DARK, is the
start symbol of a frame, and at its arrival the local time and the crystal count are recorded. In DARK, inside a frame, or
after fewer marks there is no start. That the start symbol's period ends after this command is the model's choice (log 36),
and that a command whose event cannot happen changes nothing (log 1). -/
def Obligations.HoldoverAndFrameStart : Prop :=
  (∀ s : State, s.clock.timeState = .locked → s.clock.holdover = some 0 →
    exec .holdoverExpiry s = .next (rebuild { s with
      clock := { s.clock with timeState := .holdover, holdover := none }
      vport := s.vport.latch 0x0020#16
      sport := s.sport.latch 0x0004#16 })) ∧
  ∀ s : State,
    (s.line.link ≠ .dark → s.line.rx.phase.inFrame = false → s.line.rx.marks = 6 →
      exec .downwardFrameStart s = .next { s with
        clock := { s.clock with
          frameStart := some { localTime := s.clock.time, crystal := s.clock.crystal, disturbed := false } }
        line := { s.line with rx := { marks := 0, phase := .starting } } }) ∧
    (s.line.link = .dark ∨ s.line.rx.phase.inFrame = true ∨ s.line.rx.marks ≠ 6 →
      exec .downwardFrameStart s = .next s)

/-! ## Expected times, evaluation and the board (chapter 02) -/

/-- R28 to R31: the recomputation of a call by its state. E is 0 with no notice; D less the recovery allowance its point
list gives for the notice's point, or 0, for a positive D; and D but not below −300 otherwise. -/
def Obligations.ExpectedTimes : Prop :=
  ∀ c : Call,
    let e : Int := match c.notice with
      | none => 0
      | some n =>
        if 0 < n.delay then
          match c.points.find? fun q => q.1 = n.point with
          | some q => max (n.delay - q.2) 0
          | none => n.delay
        else max n.delay (-300)
    let day (t : Int) : Nat := (max 0 (min t 86399)).toNat
    (c.state ≠ .arrived ∧ c.state ≠ .departed →
      (∀ sa, c.sa = some sa → recompute c = { c with
        ea := some (day (sa + e))
        ed := c.sd.map fun d => min (max d (day (sa + e) + c.md)) 86399
        beyond := decide (86399 < sa + e) || c.sd.any fun d => 86399 < max d (day (sa + e) + c.md) }) ∧
      (c.sa = none → recompute c = { c with
        ea := none
        ed := c.sd.map fun d => day (d + max e 0)
        beyond := c.sd.any fun d => 86399 < (d : Int) + max e 0 })) ∧
    (∀ aa, c.state = .arrived → c.aa = some aa → recompute c = { c with
      ea := c.sa.map fun _ => aa
      ed := c.sd.map fun d => min (max d (aa + c.md)) 86399
      beyond := c.sd.any fun d => 86399 < max d (aa + c.md) }) ∧
    (∀ ad, c.state = .departed → c.ad = some ad → recompute c = { c with
      ea := if c.sa = none then none else if c.passed then some ad else c.aa
      ed := c.sd.map fun _ => ad
      beyond := false })

/-- R35, R36, R37, R17, R89: an evaluation of every ACTIVE call, or of the one of a service number alone. One in SCHEDULED
or DUE whose lapse point is past enters LAPSED and leaves the saleable states; any other in SCHEDULED or DUE is DUE from its
DUE point and SCHEDULED before it, so that a DUE call whose approach time has moved away returns to SCHEDULED. Calls not
evaluated are left alone. In UNSET no call is evaluated. That a withdrawal is followed by no offer of the waiting stops is
deduced (log 12). -/
def Obligations.EvaluationOfAll : Prop :=
  ∀ s : State, GoodBank s.calls.active →
    (s.clock.timeState = .unset → evaluateAll s = s ∧ ∀ n, evaluateCall n s = s) ∧
    ∀ (picked : Call → Bool) (t : State), s.clock.timeState ≠ .unset →
      ((picked = fun _ => true) ∧ t = evaluateAll s) ∨ (∃ n, (picked = fun c => decide (c.service = n)) ∧ t = evaluateCall n s) →
      let now := s.clock.time.sec
      let isOpen (c : Call) : Bool := picked c && (c.state = .scheduled || c.state = .due)
      let lapses (c : Call) : Bool := isOpen c && (approach c).any fun a => a + s.line.params.attribution < now
      let ends (n : Nat) : Bool := s.calls.active.any fun c => c.service = n && lapses c
      t = { s with calls := t.calls, issue := t.issue, line := t.line, vport := t.vport } ∧
      t.calls = { s.calls with
        active := s.calls.active.map fun c =>
          if lapses c then { c with state := .lapsed, ackTimer := none }
          else if isOpen c then
            { c with state := if (approach c).any fun a => a ≤ now + s.line.params.dueWindow then .due else .scheduled }
          else c } ∧
      t.line = { s.line with
        urgent := s.line.urgent.filter fun i => !i.stopOf.any ends
        tx := if (s.line.urgent.head?.bind Item.stopOf).any ends = true then
            s.line.tx.map fun f => { f with queued := match f.source with
              | .urgentItem _ => false
              | .join | .routineItem _ | .sale _ => f.queued }
          else s.line.tx } ∧
      (∀ x, s.issue.sale = some x → x.state = .quoted → x.call.any ends = true →
        t.issue = { s.issue with sale := some { x with state := .void } } ∧ t.vport = s.vport.latch 0x0002#16) ∧
      ((∀ x, s.issue.sale = some x → x.state = .void ∨ x.call.any ends = false) →
        t.issue = s.issue ∧ t.vport = s.vport)

/-- R41 to R47: the rows of a board built with the time set are the first six candidates by board time and service number; a
candidate is saleable, or CANCELLED before its display end, and its board time is within the horizon; each row has its
call's minutes, status and flags. -/
def Obligations.BoardRows : Prop :=
  ∀ (p : Params) (ts : TimeState) (now : Nat) (bank : List Call), ts ≠ .unset →
    let shown (c : Call) : Bool :=
      (c.state = .scheduled || c.state = .due || c.state = .arrived ||
        (c.state = .cancelled && (c.sd.or c.sa).any fun t => now < t + 60 * p.cancelledHold)) &&
      (boardTime c).any fun b => b ≤ now + 60 * p.boardHorizon
    let sched (c : Call) : Nat := (c.sd.or c.sa).getD 0 / 60
    let expected (c : Call) : Nat := (boardTime c).getD 0 / 60
    ∃ order : List Call, order.Perm (bank.filter shown) ∧
      order.Pairwise (fun c d => ∀ x y, boardTime c = some x → boardTime d = some y →
        x < y ∨ (x = y ∧ c.service ≤ d.service)) ∧
      boardRowsOf p ts now bank = (order.take 6).map fun c =>
        { service := c.service
          dest := c.dest
          schedMinute := sched c
          expMinute := expected c
          status :=
            if c.state = .cancelled then .cancelled
            else if c.state = .arrived then .atPlatform
            else if c.state = .due then .due
            else if sched c + p.lateThreshold ≤ expected c then .late
            else .onTime
          lateMinutes := min (expected c - sched c) 999
          flags :=
            { requestStop := c.kind = .request
              stopConfirmed := c.stop = .confirmed
              stopPending := c.stop = .wanted || c.stop = .sent
              handSignal := c.stop = .late
              unconfirmed := ts = .holdover || c.notice.any fun n => n.report + p.stalenessLimit < now
              terminates := c.sd = none
              beyondDay := c.beyond } }

/-- R40, R44, R48, R49: what a build event does: the board is the build of the calls and the stores as they stand, with the
condition, the text code and the time-not-set indicator in its banner and no rows while the time is UNSET; a board that
differs from the one it replaces raises the revision by one and latches BOARD_CHANGED; demand is then evaluated afresh
(R176). R170, R173, R175, R176, R197: an evaluation of demand. In AUTO, demand is a row whose board time is within the wake
window, a row AT_PLATFORM, a pending sale, a quote demand, a button demand, or a branch not NORMAL. In DARK demand wakes the
chain, by the settling stages if SIGPWR is on, else by turning SIGPWR on, with a signage port reset by the level of SSEL at
that moment, and waiting for READY; in LIT demand stops the idle delay, and its absence starts it; in every other state
nothing follows. The level of SSEL where no event reports it is free (log 15). -/
def Obligations.BoardAndDemand : Prop :=
  (∀ s : State,
    let built : Board :=
      { condition := s.line.condition
        textCode := s.line.textCode
        notSet := decide (s.clock.timeState = .unset)
        rows := if s.clock.timeState = .unset then []
          else boardRowsOf s.line.params s.clock.timeState s.clock.time.sec s.calls.active }
    (built = s.board.board → rebuild s = evalDemand s) ∧
    (built ≠ s.board.board → rebuild s = evalDemand { s with
      board := { board := built, revision := s.board.revision + 1 }
      sport := if s.sport.held then s.sport else { s.sport with notices := s.sport.notices ||| 0x0001#16 } })) ∧
  ∀ (low : Bool) (s : State),
    let near : Bool := s.board.board.rows.any fun r => (bankFind r.service s.calls.active).any fun c =>
      (boardTime c).any fun b => b ≤ s.clock.time.sec + 60 * s.line.params.wakeWindow
    let auto : Bool := near || s.board.board.rows.any (fun r => r.status = .atPlatform) || s.issue.sale.isSome ||
      s.issue.quoteDemand.isSome || s.platform.buttonDemand.isSome || s.line.condition != .normal
    let wanted : Bool := s.screen.mode = .on || (s.screen.mode = .auto && auto)
    (low = Config.sselLow s.wakes → evalDemand s = evalDemandAt low s) ∧
    (s.screen.supply = .dark → wanted = false → evalDemandAt low s = s) ∧
    (s.screen.supply = .dark → wanted = true → s.screen.sigpwr = true → evalDemandAt low s = { s with
      screen := { s.screen with supply := .lampSettling, lamp := true, settling := some 100 } }) ∧
    (s.screen.supply = .dark → wanted = true → s.screen.sigpwr = false →
      evalDemandAt low s = { s with
        screen := { s.screen with supply := .powering, sigpwr := true, quiet := false, readyTimer := some 160 }
        sport := { s.sport with
          selLow := low
          framing := if low then .discard else .idle
          octets := []
          buffer := none
          notices := 0
          mask := 0 }
        wakes := s.wakes + 1 }) ∧
    (s.screen.supply = .lit → evalDemandAt low s = { s with
      screen := { s.screen with
        idleTimer := if wanted then none else s.screen.idleTimer.or (some (16 * s.line.params.idleDelay)) } }) ∧
    (s.screen.supply ≠ .dark ∧ s.screen.supply ≠ .lit → evalDemandAt low s = s)

/-- R26, R27, R38: a DELAY that is taken normalises its fields and finds its call in the ACTIVE bank. In SCHEDULED, DUE or
ARRIVED, a notice not earlier by report time than the stored one replaces it; the call is recomputed and evaluated and the
board rebuilt; any other notice changes nothing. -/
def Obligations.DelayNotices : Prop :=
  ∀ (addr : Byte) (p : List Byte) (s : State), takesMessage s .delay addr p → p.length = 8 → GoodBank s.calls.active →
    let n := field p 0 2
    let carried : Int := if field p 3 2 < 32768 then field p 3 2 else (field p 3 2 : Int) - 65536
    let new : DelayNotice :=
      { delay := max (-900) (min carried 21600), point := max 1 (field p 2 1), report := min (field p 5 3) 86399 }
    let takes (c : Call) : Prop := (c.state = .scheduled ∨ c.state = .due ∨ c.state = .arrived) ∧
      ∀ old, c.notice = some old → old.report ≤ new.report
    (∀ c ∈ s.calls.active, c.service = n → takes c →
      exec (.delay addr p) s = .next (rebuild (evaluateCall n { frameDone s with
        calls := { s.calls with
          active := s.calls.active.map fun x =>
            if x.service = n then recompute { x with notice := some new } else x } }))) ∧
    ((∀ c ∈ s.calls.active, c.service = n → ¬ takes c) → exec (.delay addr p) s = .next (frameDone s))

/-- R14, R15, R17, R20: CANCEL takes a call in SCHEDULED or DUE to CANCELLED, with all that leaving the saleable states
does, and REINSTATE takes a call in CANCELLED to SCHEDULED, a stop that was SENT being WANTED again, recomputed and
evaluated, with an offer of STOP_REQUEST if the stop is WANTED; the board is rebuilt. A call in another state, or none,
leaves them without effect. That a withdrawal is followed by no offer of the waiting stops is deduced (log 12). -/
def Obligations.CancelAndReinstate : Prop :=
  ∀ (addr : Byte) (p : List Byte) (s : State), p.length = 2 → GoodBank s.calls.active →
    let n := field p 0 2
    (takesMessage s .cancel addr p →
      ((∃ c ∈ s.calls.active, c.service = n ∧ (c.state = .scheduled ∨ c.state = .due)) →
        exec (.cancel addr p) s = .next (rebuild (leaveSaleable n { frameDone s with
          calls := { s.calls with
            active := s.calls.active.map fun x => if x.service = n then { x with state := .cancelled } else x } }))) ∧
      ((∀ c ∈ s.calls.active, c.service = n → c.state ≠ .scheduled ∧ c.state ≠ .due) →
        exec (.cancel addr p) s = .next (frameDone s))) ∧
    (takesMessage s .reinstate addr p →
      (∀ c ∈ s.calls.active, c.service = n → c.state = .cancelled →
        let u := evaluateCall n { frameDone s with
          calls := { s.calls with
            active := s.calls.active.map fun x =>
              if x.service = n then
                recompute { x with state := .scheduled, stop := if x.stop = .sent then .wanted else x.stop }
              else x } }
        exec (.reinstate addr p) s
          = .next (rebuild (if c.stop = .wanted ∨ c.stop = .sent then offerStops u else u))) ∧
      ((∀ c ∈ s.calls.active, c.service = n → c.state ≠ .cancelled) →
        exec (.reinstate addr p) s = .next (frameDone s)))

/-- R35 to R37, R39, R42, R49, R176: each deadline of a call, once the time of day has reached it with the time set. The DUE
point makes a SCHEDULED call not past its lapse point DUE; the lapse point makes a SCHEDULED or DUE call LAPSED, out of the
saleable states; both, with the horizon entry, the display end and the staleness point, rebuild the board; the wake entry of
a row evaluates demand. That a deadline acts at any time at or past its point is deduced (log 29), and so is that a
withdrawal is followed by no offer of the waiting stops (log 12). -/
def Obligations.DeadlinesReached : Prop :=
  ∀ (s : State) (c : Call), GoodBank s.calls.active → c ∈ s.calls.active → s.clock.timeState ≠ .unset →
    let now := s.clock.time.sec
    let p := s.line.params
    let becomes (st : CallState) : State := { s with calls := { s.calls with active := s.calls.active.map fun x =>
      if x.service = c.service then { c with state := st } else x } }
    (∀ a, approach c = some a → c.state = .scheduled → a ≤ now + p.dueWindow → now ≤ a + p.attribution →
      exec (.duePointReached c.service) s = .next (rebuild (becomes .due))) ∧
    (∀ a, approach c = some a → c.state = .scheduled ∨ c.state = .due → a + p.attribution < now →
      exec (.lapsePointReached c.service) s = .next (rebuild (leaveSaleable c.service (becomes .lapsed)))) ∧
    (∀ b, boardTime c = some b → b ≤ now + 60 * p.boardHorizon →
      exec (.horizonEntryReached c.service) s = .next (rebuild s)) ∧
    (∀ t, c.sd.or c.sa = some t → c.state = .cancelled → t + 60 * p.cancelledHold ≤ now →
      exec (.displayEndReached c.service) s = .next (rebuild s)) ∧
    (∀ x, c.notice = some x → x.report + p.stalenessLimit < now →
      exec (.stalenessPointReached c.service) s = .next (rebuild s)) ∧
    (∀ b r, boardTime c = some b → r ∈ s.board.board.rows → r.service = c.service → b ≤ now + 60 * p.wakeWindow →
      exec (.wakeEntryReached c.service) s = .next (evalDemand s))

/-! ## Ports (chapters 10 and 11) -/

/-- R187, R196, R198: a transaction on a port that is held in reset, unpowered, or in DISCARD takes nothing: SEL is then
high, and a port that heeds SEL is IDLE. R188, R190, R191, R201: each request refused on form, in the order of the checks:
the refusal replaces what the buffer held, the framing state is IDLE, and nothing else changes. R190: the request of an
unknown command code, or of any code with a wrong length or a partial octet, is refused with BAD_REQUEST; the collection
code A5H is none (R187). That a transaction in DISCARD stands for the rise of SEL is deduced (log 16). -/
def Obligations.RequestsNotCarriedOut : Prop :=
  (∀ (cmd : Command) (port : Port) (req : Request) (n : Nat) (s : State),
    ¬ takesTransaction s port → n ≠ 0 →
    let t := setPort s port
      (if listening s port then (portOf s port).idle else { portOf s port with selLow := false })
    exec (cmd.request port req) s = .next t ∧ exec (.collection port n) s = .next t) ∧
  (∀ (cmd : Command) (port : Port) (req : Request) (s : State), takesTransaction s port →
    let badRequest := exec (cmd.request port req) s = .next (answeredWith port { status := .badRequest, payload := [] } s)
    (req.octets = [] ∨ req.partialOctet = true → badRequest) ∧
    (∀ len p, req.octets = len :: p → 60 < len.toNat ∨ p.length ≠ len.toNat → badRequest) ∧
    ∀ p, framed req = some p →
      (cmd.ofPort port = false →
        exec (cmd.request port req) s = .next (answeredWith port { status := .wrongPort, payload := [] } s)) ∧
      (cmd.ofPort port = true →
        (p.length ≠ cmd.length → badRequest) ∧
        (cmd = .quote → 2 < field p 2 1 → badRequest) ∧
        (cmd = .commit → 3 < field p 0 1 → badRequest) ∧
        (cmd = .screen → 2 < field p 0 1 → field p 0 1 ≠ 255 → badRequest) ∧
        (cmd = .notices → field p 0 2 ≠ 65535 →
          (if port = .vending then 256 else 32) ≤ field p 0 2 → badRequest))) ∧
  ∀ (port : Port) (code : Byte) (rest : List Byte) (isPartial : Bool) (s : State),
    takesTransaction s port → code ≠ 0xA5#8 →
    (code.toNat = 0 ∨ 12 < code.toNat ∨ isPartial = true ∨ rest = [] ∨
      ∃ len p, rest = len :: p ∧ (60 < len.toNat ∨ p.length ≠ len.toNat)) →
    exec (.unknownCommand port { octets := code :: rest, partialOctet := isPartial }) s
      = .next (answeredWith port { status := .badRequest, payload := [] } s)

/-- R63, R50, R92, R147, R192, R201, R202: the snapshot requests, each answered OK with the fields it names as they stand,
and changing nothing but the port. R91, R202: CALLS, with the time set, lists up to 8 calls that are saleable, have SD,
serve the destination, and whose sales cut-off is later than now, by ED and then service number; while the time is UNSET it
answers an empty list. It changes nothing but the port. -/
def Obligations.SnapshotRequests : Prop :=
  (∀ (port : Port) (req : Request) (s : State), takesTransaction s port →
    let ok (p : List Byte) := answeredWith port { status := .ok, payload := p } s
    (wellFramed .time port req [] → exec (.time port req) s = .next (ok
      (beBytes 3 s.clock.time.sec ++ [BitVec.ofNat 8 s.clock.time.tick] ++ beBytes 2 s.clock.day.toNat
        ++ [s.clock.timeState.code, if s.clock.slew = 0 then 0#8 else 1#8]))) ∧
    (wellFramed .board port req [] → exec (.board port req) s = .next (ok
      (beBytes 2 s.board.revision.toNat ++ [s.board.board.condition.code, BitVec.ofNat 8 s.board.board.textCode,
          if s.board.board.notSet then 1#8 else 0#8, BitVec.ofNat 8 s.board.board.rows.length]
        ++ s.board.board.rows.flatMap fun r =>
          beBytes 2 r.service ++ beBytes 2 r.dest ++ beBytes 2 r.schedMinute ++ beBytes 2 r.expMinute
            ++ [r.status.code] ++ beBytes 2 r.lateMinutes ++ [r.flags.byte]))) ∧
    (wellFramed .salesState port req [] → exec (.salesState port req) s = .next (ok
      (beBytes 2 s.issue.journal.length ++ beBytes 2 (s.issue.blocks.map Block.count).sum
        ++ [s.issue.hold.code, s.clock.timeState.code, s.line.condition.code, s.line.link.code,
          match s.issue.sale with
          | none => 0#8
          | some x => if x.state = .quoted then 1#8 else 2#8]))) ∧
    (wellFramed .condition port req [] → exec (.condition port req) s = .next (ok
      [s.line.condition.code, BitVec.ofNat 8 s.line.textCode, s.line.link.code, s.clock.timeState.code]))) ∧
  ∀ (port : Port) (req : Request) (p : List Byte) (s : State),
    takesTransaction s port → wellFramed .calls port req p → p.length = 2 →
    (s.clock.timeState = .unset →
      exec (.calls port req) s = .next (answeredWith port { status := .ok, payload := [0x00#8] } s)) ∧
    (s.clock.timeState ≠ .unset →
      let shown (c : Call) : Bool :=
        (c.state = .scheduled || c.state = .due || c.state = .arrived) && c.sd.isSome &&
        c.served.contains (field p 0 2) && c.ed.any fun t => s.clock.time.sec + s.line.params.salesMargin < t
      let cutoff (t : Option Nat) (margin : Nat) : List Byte := optBytes 3 (t.map fun x => x - margin)
      ∃ order : List Call, order.Perm (s.calls.active.filter shown) ∧
        order.Pairwise (fun c d => ∀ x y, c.ed = some x → d.ed = some y → x < y ∨ (x = y ∧ c.service ≤ d.service)) ∧
        exec (.calls port req) s = .next (answeredWith port
          { status := .ok
            payload := BitVec.ofNat 8 (min order.length 8) :: (order.take 8).flatMap fun c =>
              beBytes 2 c.service ++ optBytes 3 c.ed ++ cutoff c.ed s.line.params.salesMargin ++ [c.kind.code, c.stop.code]
                ++ cutoff (if c.kind = .request then approach c else none) s.line.params.requestMargin } s))

/-- R189: a collection shifts out, from its second octet, the status code, the length and the payload of the response, or
EMPTY with length 0, then all ones; however many octets were clocked, the buffer is empty after it. R195: NOTICES returns
the notices not masked, removes exactly those, and then takes a mask that is present. R186, R194, R196, R198: RDY is
asserted while the response buffer holds a response, and NOTICE while a notice that is not masked is pending, and neither on
a port that is held in reset or on an unpowered signage port. The record of DOUT is the model's (log 17), and so is the
count of octets as an operand (log 28). -/
def Obligations.CollectionAndNotices : Prop :=
  (∀ (port : Port) (n : Nat) (s : State), takesTransaction s port → n ≠ 0 →
    let body : List Byte := match (portOf s port).buffer with
      | some r => r.status.code :: BitVec.ofNat 8 r.payload.length :: r.payload
      | none => [0x01#8, 0x00#8]
    ∃ out, exec (.collection port n) s
        = .next (setPort s port { (portOf s port).idle with buffer := none, dout := out }) ∧
      out.length = n ∧ ∀ k, k < n → out[k]? = some (if k = 0 then 0xFF#8 else body.getD (k - 1) 0xFF#8)) ∧
  (∀ (port : Port) (req : Request) (p : List Byte) (s : State),
    takesTransaction s port → wellFramed .notices port req p → p.length = 2 →
    field p 0 2 = 65535 ∨ field p 0 2 < (if port = .vending then 256 else 32) →
    let q := portOf s port
    let pending := q.notices &&& q.mask
    let mask := if field p 0 2 = 65535 then q.mask else BitVec.ofNat 16 (field p 0 2)
    exec (.notices port req) s = .next (setPort s port
      { q.idle with
        notices := pending
        mask := mask
        buffer := some
          { status := .ok
            payload := beBytes 2 (q.notices &&& ~~~q.mask).toNat ++ beBytes 2 pending.toNat ++ beBytes 2 mask.toNat } })) ∧
  ∀ (port : Port) (s : State),
    let awake : Prop := (portOf s port).held = false ∧ (port = .signage → s.screen.sigpwr = true)
    (rdy s port = true ↔ (portOf s port).buffer ≠ none ∧ awake) ∧
    (noticeOut s port = true ↔ (portOf s port).notices &&& ~~~(portOf s port).mask ≠ 0 ∧ awake)

/-! ## Sales (chapter 05) -/

/-- R82, R83, R76, R188: a QUOTE that is well formed is refused with the code of the first check that fails, in the order of
the two rules, and changes nothing but the port; it is refused only then. -/
def Obligations.QuoteChecksInOrder : Prop :=
  ∀ (port : Port) (req : Request) (p : List Byte) (q : QuoteFields) (s : State),
    takesTransaction s port → wellFramed .quote port req p → readQuote p = some q →
    let now := s.clock.time.sec
    let call (n : Nat) (test : Call → Bool) : Bool := (bankFind n s.calls.active).any test
    let callTests : List (Bool × Status) := match q.service with
      | none => []
      | some n =>
        [(s.line.condition != .suspended, .suspended),
          (call n fun c => c.sd.isSome, .unknownCall),
          (call n fun c => c.state = .scheduled || c.state = .due || c.state = .arrived, .callGone),
          (call n fun c => c.served.contains q.dest, .notServed),
          (call n fun c => c.ed.any fun t => now + s.line.params.salesMargin < t, .tooLate),
          (call n fun c => c.kind = .stops || c.stop != .none ||
            (approach c).any fun t => now + s.line.params.requestMargin < t, .tooLate)]
    let peakTime := match q.service with
      | none => now
      | some n => ((bankFind n s.calls.active).bind fun c => c.sd).getD now
    let tests : List (Bool × Status) :=
      [(s.clock.timeState != .unset, .noTime),
        (s.issue.hold = .free, .held),
        (s.line.condition != .closed, .closed),
        ((zoneOf s.fares.dests q.dest).isSome, .unknownDest),
        ((slotOf s.fares q.concession).isSome, .unknownConcession)] ++ callTests ++
      [(!(q.kind = .dayReturn && s.fares.block.peakStart ≤ peakTime && peakTime < s.fares.block.peakEnd), .peak),
        ((s.issue.blocks.map Block.count).sum != 0, .noSerial),
        (s.issue.journal.length < 400 && s.issue.sequence < 4294967295, .journalFull)]
    (∀ r, ((tests.find? fun t => !t.1).map Prod.snd) = some r →
      exec (.quote port req) s = .next (answeredWith port { status := r, payload := [] } s)) ∧
    ((tests.find? fun t => !t.1) = none ↔ quoteRefusal (requestTaken port s) q = none)

/-- R84, R76: a QUOTE that passes every check makes the pending sale, in QUOTED with the fare of the fare unit, the time,
and a lapse timer of 180 s, in place of any other; it restarts the quote demand at 120 s, on which demand is evaluated; and
it is answered with the fare, the quote time and the lifetime. -/
def Obligations.QuoteAccepted : Prop :=
  ∀ (port : Port) (req : Request) (p : List Byte) (q : QuoteFields) (z : Nat) (c : Concession) (s : State),
    takesTransaction s port → wellFramed .quote port req p → readQuote p = some q →
    quoteRefusal (requestTaken port s) q = none → zoneOf s.fares.dests q.dest = some z → slotOf s.fares q.concession = some c →
    let fare := fareOf s.fares.block z q.kind c
    exec (.quote port req) s = .next (respond port
      { status := .ok, payload := beBytes 2 fare ++ beBytes 3 s.clock.time.sec ++ [0x00#8, 0xB4#8] }
      (evalDemand { requestTaken port s with
        issue := { s.issue with
          quoteDemand := some 1920
          sale := some
            { state := .quoted
              call := q.service
              dest := q.dest
              kind := q.kind
              concession := q.concession
              fare := fare
              quoteTime := s.clock.time.sec
              lapse := 2880 } } }))

/-- R85: the checks of a COMMIT in their order: no sale, a VOID sale, a full journal or an exhausted counter, no serial. A
refused COMMIT changes nothing but the port. R86, R94, R96 to R99, R102, R138, R19, R20: a COMMIT that passes every check
takes the next serial of the oldest block, appends the record of the ticket, which is also the response, and removes the
sale; a cursor at the end of the journal names the record; the call of the sale counts one more ticket sold, and a REQUEST
call in stop state NONE is WANTED before its request cut-off, its STOP_REQUEST offered, or LATE, the board being rebuilt; a
crossing below 50 serials, or fewer than 50 with no ask-repeat timer running, offers a SERIAL_ASK, latches SERIAL_LOW and
starts that timer; the 352nd record latches JOURNAL_NEAR_FULL; a hold in ASKED is granted, with HOLD_CHANGED and
HOLD_GRANTED; and demand is evaluated. The board is built once (log 8). -/
def Obligations.CommitTaken : Prop :=
  (∀ (port : Port) (req : Request) (p : List Byte) (s : State),
    takesTransaction s port → wellFramed .commit port req p → p.length = 1 → field p 0 1 ≤ 3 →
    let refused (st : Status) := exec (.commit port req) s = .next (answeredWith port { status := st, payload := [] } s)
    let isFull : Prop := 400 ≤ s.issue.journal.length ∨ 4294967295 ≤ s.issue.sequence
    (s.issue.sale = none → refused .noQuote) ∧
    ∀ x, s.issue.sale = some x →
      (x.state = .void → refused .callGone) ∧
      (x.state = .quoted → isFull → refused .journalFull) ∧
      (x.state = .quoted → ¬ isFull → (∀ b ∈ s.issue.blocks, b.count = 0) → refused .noSerial)) ∧
  ∀ (port : Port) (req : Request) (p : List Byte) (x : Sale) (b : Block) (bs : List Block) (s : State),
    takesTransaction s port → wellFramed .commit port req p → p.length = 1 → field p 0 1 ≤ 3 →
    s.issue.sale = some x → x.state = .quoted → s.issue.blocks = b :: bs → 1 ≤ b.count →
    s.issue.journal.length < 400 → s.issue.sequence < 4294967295 →
    let record : Ticket :=
      { sequence := s.issue.sequence + 1
        serial := b.next
        day := s.clock.day
        issueTime := s.clock.time.sec
        service := x.call
        dest := x.dest
        kind := x.kind
        concession := x.concession
        fare := x.fare
        payment := field p 0 1 }
    let blocks : List Block := if b.count = 1 then bs else { b with next := b.next + 1, count := b.count - 1 } :: bs
    (∃ t, exec (.commit port req) s = .next t ∧
      t.issue.journal = s.issue.journal ++ [record] ∧ t.issue.sequence = s.issue.sequence + 1 ∧
      t.issue.blocks = blocks ∧ t.issue.sale = none ∧
      t.issue.hold = (if s.issue.hold = .asked then .held else s.issue.hold) ∧
      t.issue.limitTimer = (if s.issue.hold = .asked then some 9600 else s.issue.limitTimer) ∧
      t.issue.quoteDemand = s.issue.quoteDemand ∧
      (portOf t port).buffer = some { status := .ok, payload := ticketBytes record } ∧
      t.line.cursor = some (s.line.cursor.getD (s.issue.sequence + 1)) ∧
      t.line.highestSent = s.line.highestSent ∧ t.line.saleAckTimer = s.line.saleAckTimer ∧
      t.calls.next = s.calls.next ∧ t.calls.nextState = s.calls.nextState ∧
      t.calls.active.map (fun c => (c.toScheduled, c.state, c.notice, c.ea, c.ed, c.aa, c.ad, c.sold))
        = s.calls.active.map (fun c => (c.toScheduled, c.state, c.notice, c.ea, c.ed, c.aa, c.ad,
          if x.call = some c.service then min (c.sold + 1) 255 else c.sold)) ∧
      (351 = s.issue.journal.length → s.vport.held = false → port = .vending → t.vport.notices &&& 0x0010#16 ≠ 0) ∧
      t.clock = s.clock ∧ t.fares = s.fares ∧ t.platform = s.platform ∧ t.line.params = s.line.params ∧
      t.line.link = s.line.link ∧ t.pending = s.pending) ∧
    (GoodBank s.calls.active →
      let now := s.clock.time.sec
      let before := (s.issue.blocks.map Block.count).sum
      let isAsking (c : Call) : Bool := x.call = some c.service && c.kind = .request && c.stop = .none
      let isEarly (c : Call) : Bool := (approach c).any fun a => now + s.line.params.requestMargin < a
      let sold : State := { requestTaken port s with
        calls := { s.calls with
          active := s.calls.active.map fun c =>
            let d : Call := if x.call = some c.service then { c with sold := min (c.sold + 1) 255 } else c
            if isAsking c then
              { d with stop := if isEarly c then .wanted else .late, origin := some .ticket, wantedAt := some now }
            else d }
        issue := { s.issue with
          sale := none, blocks := blocks, journal := s.issue.journal ++ [record], sequence := s.issue.sequence + 1 }
        line := { s.line with cursor := some (s.line.cursor.getD (s.issue.sequence + 1)) } }
      let offered : State := if s.calls.active.any fun c => isAsking c && isEarly c then offerStops sold else sold
      let asked : State :=
        if before - 1 < 50 ∧ (50 ≤ before ∨ s.issue.askTimer = none) then { offered with
          issue := { offered.issue with askTimer := some 4800 }
          line := offered.line.enqueue s.line.classMap.serialAsk (.serialAsk (before - 1))
          vport := offered.vport.latch 0x0008#16 }
        else offered
      let near : State :=
        if s.issue.journal.length = 351 then { asked with vport := asked.vport.latch 0x0010#16 } else asked
      let granted : State :=
        if s.issue.hold = .asked then { near with
          issue := { near.issue with hold := .held, limitTimer := some 9600 }
          line := near.line.enqueue s.line.classMap.hold .holdGranted
          vport := near.vport.latch 0x0004#16 }
        else near
      exec (.commit port req) s = .next (respond port { status := .ok, payload := ticketBytes record }
        (if s.calls.active.any isAsking then rebuild granted else evalDemand granted)))

/-- R87, R88, R102: the RELEASE request answers OK and removes the sale if there is one; the lapse timer that runs out
removes the sale and latches QUOTE_LAPSED. Either grants a hold in ASKED: HELD, with the limit timer at 600 s, HOLD_CHANGED
latched and HOLD_GRANTED offered; and demand is evaluated. R96, R103, R176: the issue unit's other timers: the hold limit
frees the hold, latches HOLD_CHANGED (R100) and offers HOLD_ENDED EXPIRED; the ask-repeat timer stops, or, with fewer than
50 serials remaining, starts again at 300 s with a SERIAL_ASK offered and SERIAL_LOW latched; the quote demand and the
button demand end, and demand is evaluated. -/
def Obligations.SaleAndHoldTimers : Prop :=
  (∀ s : State,
    let ended (u : State) : State :=
      if s.issue.hold = .asked then { u with
        issue := { s.issue with sale := none, hold := .held, limitTimer := some 9600 }
        line := s.line.enqueue s.line.classMap.hold .holdGranted
        vport := u.vport.latch 0x0004#16 }
      else { u with issue := { s.issue with sale := none } }
    (∀ (port : Port) (req : Request), takesTransaction s port → wellFramed .release port req [] →
      (s.issue.sale.isSome = true → exec (.releaseRequest port req) s
        = .next (respond port { status := .ok, payload := [] } (evalDemand (ended (requestTaken port s))))) ∧
      (s.issue.sale = none → exec (.releaseRequest port req) s
        = .next (answeredWith port { status := .ok, payload := [] } s))) ∧
    (∀ x, s.issue.sale = some x → x.lapse = 0 →
      exec .quoteLapse s = .next (evalDemand (ended { s with vport := s.vport.latch 0x0001#16 })))) ∧
  ∀ s : State,
    let left := (s.issue.blocks.map Block.count).sum
    (s.issue.hold = .held → s.issue.limitTimer = some 0 → exec .holdExpiry s = .next { s with
      issue := { s.issue with hold := .free, limitTimer := none }
      line := s.line.enqueue s.line.classMap.hold (.holdEnded .expired)
      vport := s.vport.latch 0x0004#16 }) ∧
    (s.issue.askTimer = some 0 → 50 ≤ left →
      exec .serialAskRepeat s = .next { s with issue := { s.issue with askTimer := none } }) ∧
    (s.issue.askTimer = some 0 → left < 50 → exec .serialAskRepeat s = .next { s with
      issue := { s.issue with askTimer := some 4800 }
      line := s.line.enqueue s.line.classMap.serialAsk (.serialAsk left)
      vport := s.vport.latch 0x0008#16 }) ∧
    (s.issue.quoteDemand = some 0 →
      exec .quoteDemandExpiry s = .next (evalDemand { s with issue := { s.issue with quoteDemand := none } })) ∧
    (s.platform.buttonDemand = some 0 →
      exec .buttonDemandExpiry s = .next (evalDemand { s with platform := { s.platform with buttonDemand := none } }))

/-! ## Screen sequencer (chapter 09) -/

/-- R171, R177, R178: READY raises a chain in POWERING and changes no other; SCREEN takes a trim, clamped, recomputing the
level, and then a mode, evaluating demand, and reports what stands after; QUIET is refused unless the chain is DARK and no
unmasked notice is pending, and then turns SIGPWR off and sets the quiet flag. R177, R191, R200: the fields of a SCREEN, its
mode one of three or absent, its trim carried biased by 128 and clamped, or absent. -/
def Obligations.SignageRequests : Prop :=
  ∀ (port : Port) (req : Request) (s : State), takesTransaction s port →
    (wellFramed .ready port req [] →
      (s.screen.supply = .powering →
        exec (.ready port req) s = .next (answeredWith port { status := .ok, payload := [] } { s with
          screen := { s.screen with supply := .lampSettling, lamp := true, readyTimer := none, settling := some 100 } })) ∧
      (s.screen.supply ≠ .powering →
        exec (.ready port req) s = .next (answeredWith port { status := .ok, payload := [] } s))) ∧
    (∀ p, wellFramed .screen port req p → p.length = 2 → field p 0 1 ≤ 2 ∨ field p 0 1 = 255 → readScreen p = some
      { mode := match field p 0 1 with
          | 0 => some .auto
          | 1 => some .on
          | 2 => some .off
          | _ => none
        trim := if field p 1 1 = 255 then none else some (max (-16) (min ((field p 1 1 : Int) - 128) 15)) }) ∧
    (∀ p f, wellFramed .screen port req p → readScreen p = some f →
      let trimmed : State := match f.trim with
        | some v => { requestTaken port s with screen := { s.screen with
            trim := v
            level := if s.screen.supply = .lit then
                (max 1 (min ((s.line.params.levels.getD s.screen.band 0 : Int) + v) 63)).toNat
              else 0 } }
        | none => requestTaken port s
      let t : State := match f.mode with
        | some m => evalDemand { trimmed with screen := { trimmed.screen with mode := m } }
        | none => trimmed
      exec (.screen port req) s = .next (respond port
        { status := .ok
          payload := [t.screen.supply.code, BitVec.ofNat 8 t.screen.band, BitVec.ofNat 8 t.screen.level,
            t.screen.mode.code, BitVec.ofNat 8 (t.screen.trim + 128).toNat] } t)) ∧
    (wellFramed .quiet port req [] →
      (s.screen.supply ≠ .dark →
        exec (.quiet port req) s = .next (answeredWith port { status := .screenLit, payload := [] } s)) ∧
      (s.screen.supply = .dark → s.sport.notices &&& ~~~s.sport.mask ≠ 0 →
        exec (.quiet port req) s = .next (answeredWith port { status := .noticesPending, payload := [] } s)) ∧
      (s.screen.supply = .dark → s.sport.notices &&& ~~~s.sport.mask = 0 →
        exec (.quiet port req) s = .next (answeredWith port { status := .ok, payload := [] } { s with
          screen := { s.screen with quiet := true, sigpwr := false } })))

/-- R172, R173, R174, R184, R176: the timers of the supply chain. The settling stages are not counted (log 14), and that an
unpowered port keeps no octets is deduced (log 31). -/
def Obligations.SupplyTimers : Prop :=
  ∀ s : State,
    (s.screen.supply = .powering → s.screen.readyTimer = some 0 → exec .readyTimeout s = .next (statusCause { s with
      screen := { s.screen with supply := .fault, sigpwr := false, readyTimer := none, retryTimer := some 960 }
      sport := { s.sport with framing := .idle, octets := [] } })) ∧
    (s.screen.supply = .lampSettling → s.screen.settling = some 100 → exec .settlingExpiry s = .next { s with
      screen := { s.screen with supply := .biasSettling, bias := true, settling := some 50 } }) ∧
    (s.screen.supply = .biasSettling → s.screen.settling = some 50 → exec .settlingExpiry s = .next (evalDemand { s with
      screen := { s.screen with
        supply := .lit
        drive := true
        settling := none
        level := (max 1 (min ((s.line.params.levels.getD s.screen.band 0 : Int) + s.screen.trim) 63)).toNat }
      sport := s.sport.latch 0x0010#16 })) ∧
    (s.screen.supply = .lit → s.screen.idleTimer = some 0 → exec .idleDelayExpiry s = .next (evalDemand { s with
      screen := { s.screen with
        supply := .dark, drive := false, bias := false, lamp := false, idleTimer := none, level := 0 }
      sport := s.sport.latch 0x0010#16 })) ∧
    (s.screen.supply = .fault → s.screen.retryTimer = some 0 → exec .faultRetryExpiry s = .next (evalDemand (statusCause
      { s with screen := { s.screen with supply := .dark, retryTimer := none } })))

/-- R180 to R182: a pulse raises the saturating count; a window that ends judges its band by the thresholds in force, adopts
a band held for three windows running, recomputes the level, and starts the next window with the count at 0. R183: in a
period of BRIGHT as many of the 63 steps are high as the level held at its start while the screen is LIT, and none
elsewhere. -/
def Obligations.AmbientLight : Prop :=
  ((∀ s : State, exec .ambPulse s = .next { s with screen := { s.screen with
    ambient := if s.screen.ambient < 65535 then s.screen.ambient + 1 else 65535 } }) ∧
  ∀ s : State, s.screen.window = 0 →
    let w := (s.line.params.thresholds.filter fun t => t ≤ s.screen.ambient).length
    let run := match s.screen.candidate with
      | some (b, n) => if b = w then n + 1 else 1
      | none => 1
    let band := if w ≠ s.screen.band ∧ 3 ≤ run then w else s.screen.band
    exec .ambientWindowEnd s = .next { s with screen := { s.screen with
      ambient := 0
      window := 16
      band := band
      candidate := if w = s.screen.band ∨ 3 ≤ run then none else some (w, run)
      level := if s.screen.supply = .lit then
          (max 1 (min ((s.line.params.levels.getD band 0 : Int) + s.screen.trim) 63)).toNat
        else 0 } }) ∧
  ∀ (c : Screen) (level : Nat), level ≤ 63 →
    (brightPeriod c level).length = 63 ∧
    (c.supply = .lit → ((brightPeriod c level).filter fun x => x).length = level) ∧
    (c.supply ≠ .lit → ∀ x ∈ brightPeriod c level, x = false)

/-! ## Downward messages and loads (chapters 01, 05, 06, 07) -/

/-- R111, R124, R127, R128, R136: a frame discarded as bad is counted and restarts no timer. A valid frame closes the
receiver's frame and restarts the silence timer in ADMITTED; and then a frame for another address, of a kind not taken in
the link state, or of an addressed kind sent to address 0 does nothing more, an undefined kind for this halt is counted, and
a defined kind that is taken with a payload of another length is answered BAD_RECORD if it is one of the nine loads, and
counted otherwise. That a message is commanded whole is the model's choice (log 5); that the marks of a frame do not count
towards the next start, and that the whole address octet is compared, are deduced (logs 13, 27). -/
def Obligations.FramesNotCarriedOut : Prop :=
  ∀ s : State,
    let closed (l : Line) : Line := { l with
      rx := match l.rx.phase with
        | .starting | .receiving _ => { marks := 0, phase := .waiting }
        | .waiting | .valid _ | .bad _ => { l.rx with phase := .waiting } }
    let done (l : Line) : Line := { closed l with
      silenceTimer := if l.link = .admitted then some 480 else l.silenceTimer }
    let counted (l : Line) : Line := { l with badFrames := if l.badFrames < 65535 then l.badFrames + 1 else 65535 }
    (∀ cause, s.line.link ≠ .dark → rxAdmitsBad s.line.rx cause = true →
      exec (.badFrame cause) s = .next { s with line := counted (closed s.line) }) ∧
    (∀ addr kind p, heard s addr kind p = true → DownKind.ofCode kind = none →
      exec (.frameDiscarded addr kind p) s = .next { s with
        line := if addr.toNat = 0 ∨ addr.toNat = s.line.address then counted (done s.line) else done s.line }) ∧
    (∀ k addr p, heard s addr k.code p = true → taken s k addr = false →
      exec (.frameDiscarded addr k.code p) s = .next { s with line := done s.line } ∧
      exec (k.message addr p) s = .next { s with line := done s.line }) ∧
    (∀ k addr p, takesMessage s k addr p → k.hasLength p = false →
      exec (k.message addr p) s = .next { s with
        line := match k.loadKind with
          | some l => (done s.line).enqueue s.line.classMap.loadReply (.loadReply l .badRecord none)
          | none => counted (done s.line) })

/-- R119 to R126, R148: what every change of link state does to the line interface, and the commands that make one. A frame
in progress ends, its source left as it was, and the mark of a STATUS owed goes with a STATUS frame; thresholds return to
base and the fault run to 0; the resume flag is cleared in HUNT; the timers are those of the state entered; LINK_STATE is
latched. R123, R130, R136, R200: the fields of an ADMIT, and one of another length or with a class or a resume-allowed field
beyond its list, which is a bad frame. -/
def Obligations.LinkMoves : Prop :=
  ∀ s : State,
    let moved (k : LinkState) (l : Line) : State := { s with
      line := { l with
        link := k
        tx := none
        statusOwed := if l.tx.any TxFrame.carriesStatus then false else l.statusOwed
        urgentThreshold := 6
        routineThreshold := 11
        faultRun := 0
        resume := if k = .hunt then false else l.resume
        joinPending := if k = .synced then true else if k = .admitted then false else l.joinPending
        joinTimer := none
        admissionTimer := if k = .synced then some 960 else none
        silenceTimer := if k = .admitted then some 480 else none
        lostTimer := if k = .lost then some 1920 else none
        statusTimer := if k = .admitted then some 4800 else none }
      vport := s.vport.latch 0x0080#16 }
    (∀ addr, takesMessage s .restart addr [] →
      (s.line.link ≠ .hunt → exec (.restart addr []) s = .next (moved .hunt (frameDone s).line)) ∧
      (s.line.link = .hunt → exec (.restart addr []) s = .next (frameDone s))) ∧
    (∀ addr p f, takesMessage s .admission addr p → readAdmit p = some f →
      exec (.admission addr p) s = .next
        (let u := if s.line.link = .synced then moved .admitted (frameDone s).line else frameDone s
        { u with line := { u.line with resume := f.resume, classMap := f.classMap } })) ∧
    (∀ addr p, takesMessage s .admission addr p →
      let cls (k : Nat) : AccessClass := if field p k 1 = 0 then .urgent else .routine
      (p.length = 6 → (∀ k, k < 6 → field p k 1 ≤ 1) → readAdmit p = some
        { classMap := { status := cls 0, observation := cls 1, hold := cls 2, serialAsk := cls 3, loadReply := cls 4 }
          resume := decide (field p 5 1 = 1) }) ∧
      (p.length ≠ 6 ∨ (∃ k, k < 6 ∧ 1 < field p k 1) →
        exec (.admission addr p) s = .next (countBad (frameDone s)))) ∧
    (s.line.link = .synced → s.line.joinTimer = some 0 → exec .joinTimerExpiry s = .next { s with
      line := { s.line with joinPending := true, joinTimer := none } }) ∧
    (s.line.link = .synced → s.line.admissionTimer = some 0 → exec .admissionTimeout s = .next (moved .hunt s.line)) ∧
    (s.line.link = .admitted → s.line.silenceTimer = some 0 → exec .silenceTimeout s = .next (moved .lost s.line)) ∧
    (s.line.link = .lost → s.line.lostTimer = some 0 → exec .lostTimeout s = .next (moved .hunt s.line))

/-- R21: a STOP_ACK of a REQUEST call in WANTED or SENT confirms the stop, stops its timer and removes its queued
STOP_REQUEST, and the board is rebuilt; of any other call it is ignored. An acknowledgement timer that runs out in SENT
makes the stop WANTED again, and the waiting stops are offered. That a withdrawal is followed by no offer of the waiting
stops is deduced (log 12). -/
def Obligations.StopAcknowledged : Prop :=
  ∀ s : State, GoodBank s.calls.active →
    (∀ addr p, takesMessage s .stopAck addr p → p.length = 2 →
      let n := field p 0 2
      ((∃ c ∈ s.calls.active, c.service = n ∧ c.kind = .request ∧ (c.stop = .wanted ∨ c.stop = .sent)) →
        exec (.stopAck addr p) s = .next (rebuild { frameDone s with
          calls := { s.calls with
            active := s.calls.active.map fun c =>
              if c.service = n then { c with stop := .confirmed, ackTimer := none } else c }
          line := { (frameDone s).line with
            urgent := s.line.urgent.filter fun i => i.stopOf ≠ some n
            tx := if s.line.urgent.head?.bind Item.stopOf = some n then
                s.line.tx.map fun f => { f with queued := match f.source with
                  | .urgentItem _ => false
                  | .join | .routineItem _ | .sale _ => f.queued }
              else s.line.tx } })) ∧
      ((∀ c ∈ s.calls.active, c.service = n → c.kind = .stops ∨ (c.stop ≠ .wanted ∧ c.stop ≠ .sent)) →
        exec (.stopAck addr p) s = .next (frameDone s))) ∧
    (∀ c ∈ s.calls.active, c.stop = .sent → c.ackTimer = some 0 →
      exec (.stopAckTimeout c.service) s = .next (rebuild (offerStops { s with
        calls := { s.calls with
          active := s.calls.active.map fun d =>
            if d.service = c.service then { c with stop := .wanted, ackTimer := none } else d } })))

/-- R138, R140, R141: a SALE_ACK below the head of the journal, or of an empty journal, is ignored; else the number is
lowered to the highest sent, the records up to it are removed, a cursor at a removed record moves to the head, and the
acknowledgement timer stops unless a sent record is left. That timer running out sends the cursor back to the head. -/
def Obligations.JournalAcknowledged : Prop :=
  (∀ (addr : Byte) (p : List Byte) (s : State), takesMessage s .saleAck addr p → p.length = 4 →
    let n := field p 0 4
    ((∀ t ∈ s.issue.journal.head?, n < t.sequence) → exec (.saleAck addr p) s = .next (frameDone s)) ∧
    (∀ t, s.issue.journal.head? = some t → t.sequence ≤ n →
      let kept := s.issue.journal.filter fun x => min n s.line.highestSent < x.sequence
      exec (.saleAck addr p) s = .next { frameDone s with
        issue := { s.issue with journal := kept }
        line := { (frameDone s).line with
          cursor := match s.line.cursor with
            | none => none
            | some k => if kept.any (fun x => x.sequence = k) then some k else kept.head?.map Ticket.sequence
          saleAckTimer :=
            if kept.any (fun x => x.sequence ≤ s.line.highestSent) then s.line.saleAckTimer else none } })) ∧
  ∀ s : State, s.line.saleAckTimer = some 0 → exec .ackTimerExpiry s = .next { s with
    line := { s.line with cursor := s.issue.journal.head?.map Ticket.sequence, saleAckTimer := none } }

/-- R95, R100, R101: on a sound stock a SERIAL_GRANT is normalised, so that it names no serial above 16,777,215, and judged
in order: a full list, an overlap with an unused range, a serial that a journal record carries; accepted, it joins the list
as the newest block. HOLD and RELEASE by the state of the table hold. -/
def Obligations.GrantsAndHold : Prop :=
  ∀ (addr : Byte) (s : State),
    (∀ p, StockInv s.issue → takesMessage s .serialGrant addr p → p.length = 5 →
      let first := max 1 (min (field p 0 3) 16777215)
      let count := min (max 1 (min (field p 3 2) 2000)) (16777216 - first)
      let meets (a m : Nat) : Prop := ∃ x, first ≤ x ∧ x < first + count ∧ a ≤ x ∧ x < a + m
      let reply (o : LoadOutcome) (u : State) := exec (.serialGrant addr p) s = .next (offerReply .serialGrant o (some first) u)
      (4 ≤ s.issue.blocks.length → reply .listFull (frameDone s)) ∧
      (s.issue.blocks.length < 4 → (∃ b ∈ s.issue.blocks, meets b.next b.count) → reply .overlap (frameDone s)) ∧
      (s.issue.blocks.length < 4 → (∀ b ∈ s.issue.blocks, ¬ meets b.next b.count) →
        ((∃ t ∈ s.issue.journal, meets t.serial 1) → reply .reissue (frameDone s)) ∧
        ((∀ t ∈ s.issue.journal, ¬ meets t.serial 1) → reply .accepted { frameDone s with
          issue := { s.issue with
            blocks := s.issue.blocks ++ [{ first := first, next := first, count := count }] } }))) ∧
    (takesMessage s .hold addr [] →
      let u := frameDone s
      (s.issue.hold = .free → s.issue.sale = none → exec (.hold addr []) s = .next (offerHoldGranted { u with
        issue := { s.issue with hold := .held, limitTimer := some 9600 }, vport := s.vport.latch 0x0004#16 })) ∧
      (s.issue.hold = .free → s.issue.sale.isSome = true → exec (.hold addr []) s = .next { u with
        issue := { s.issue with hold := .asked, limitTimer := none }, vport := s.vport.latch 0x0004#16 }) ∧
      (s.issue.hold = .asked → exec (.hold addr []) s = .next u) ∧
      (s.issue.hold = .held → exec (.hold addr []) s = .next (offerHoldGranted u))) ∧
    (takesMessage s .release addr [] →
      let u := frameDone s
      let freed : State := { u with
        issue := { s.issue with hold := .free, limitTimer := none }, vport := s.vport.latch 0x0004#16 }
      (s.issue.hold = .free → exec (.releaseMessage addr []) s = .next u) ∧
      (s.issue.hold = .asked → exec (.releaseMessage addr []) s = .next freed) ∧
      (s.issue.hold = .held → exec (.releaseMessage addr []) s = .next (offerHoldEnded .released freed)))

/-- R6, R7, R8, R11, R12, R137: the loads of the NEXT bank. An accepted LOAD_CALL puts its normalised record, live fields
cleared, EA and ED computed, in the place of its service number, and the bank is LOADING; a record with no usable time is
BAD_RECORD, and a 97th record BANK_FULL. LOAD_CLEAR empties the bank; LOAD_END completes it if its count is right. R2, R3,
R7, R200, R203: the normalised fields of a LOAD_CALL, the served destinations without duplicates and cut at 6, the upstream
points with distinct codes, the last allowance of each, cut at 4. R4, R7: a record as it enters a bank has its live fields
cleared, SCHEDULED and NONE, and EA and ED computed; and the check of its times, of which one at least is present and SA is
not after SD. That the bank is in rising order of service number is the model's choice (log 32). -/
def Obligations.NextBankLoads : Prop :=
  (∀ (addr : Byte) (s : State), GoodBank s.calls.next →
    (∀ p f, takesMessage s .loadCall addr p → readLoadCall p = some f → f.bank = 1 →
      let r := f.record
      let isOld : Prop := ∃ c ∈ s.calls.next, c.service = r.service
      let reply (o : LoadOutcome) (u : State) := exec (.loadCall addr p) s = .next (offerReply .call o (some r.service) u)
      (r.timesOk = false → reply .badRecord (frameDone s)) ∧
      (r.timesOk = true → ¬ isOld → 96 ≤ s.calls.next.length → reply .bankFull (frameDone s)) ∧
      (r.timesOk = true → (isOld ∨ s.calls.next.length < 96) →
        ∃ bank, reply .accepted { frameDone s with calls := { s.calls with next := bank, nextState := .loading } } ∧
          bank.Pairwise (fun c d => c.service < d.service) ∧
          ∀ c, c ∈ bank ↔ c = freshCall r ∨ (c ∈ s.calls.next ∧ c.service ≠ r.service))) ∧
    (∀ p f, takesMessage s .loadCall addr p → readLoadCall p = some f → 1 < f.bank →
      exec (.loadCall addr p) s = .next (offerReply .call .badRecord (some f.record.service) (frameDone s))) ∧
    (takesMessage s .loadClear addr [] → exec (.loadClear addr []) s = .next (offerReply .clear .accepted none
      { frameDone s with calls := { s.calls with next := [], nextState := .empty } })) ∧
    (∀ n : Byte, takesMessage s .loadEnd addr [n] →
      (n.toNat = s.calls.next.length → exec (.loadEnd addr [n]) s = .next (offerReply .ending .accepted
        (some s.calls.next.length) { frameDone s with calls := { s.calls with nextState := .complete } })) ∧
      (n.toNat ≠ s.calls.next.length → exec (.loadEnd addr [n]) s
        = .next (offerReply .ending .countMismatch (some s.calls.next.length) (frameDone s)))) ∧
    ∀ p, DownKind.loadCall.hasLength p = true →
      let time (off : Nat) : Option Nat := if field p off 3 = 16777215 then none else some (min (field p off 3) 86399)
      let k := field p 14 1
      let codes : List Nat := (List.range k).map fun j => max 1 (min (field p (15 + 2 * j) 2) 999)
      let points : List (Nat × Nat) := (List.range (field p (15 + 2 * k) 1)).map fun j =>
        (max 1 (min (field p (16 + 2 * k + 3 * j) 1) 255), min (field p (17 + 2 * k + 3 * j) 2) 900)
      readLoadCall p = some
        { bank := field p 0 1
          record :=
            { service := max 1 (min (field p 1 2) 9999)
              dest := max 1 (min (field p 3 2) 999)
              kind := if field p 5 1 = 0 then .stops else .request
              sa := time 6
              sd := time 9
              md := if field p 12 2 = 65535 then 30 else min (field p 12 2) 600
              served := codes.eraseDups.take 6
              points := ((points.map Prod.fst).eraseDups.take 4).map fun c =>
                (c, ((points.reverse.find? fun e => e.1 = c).map Prod.snd).getD 0) } }) ∧
  ∀ r : Scheduled,
    freshCall r = recompute
      { toScheduled := r
        state := .scheduled
        notice := none
        ea := none
        ed := none
        aa := none
        ad := none
        passed := false
        beyond := false
        sold := 0
        stop := .none
        origin := none
        wantedAt := none
        ackTimer := none } ∧
    (r.timesOk = true ↔ (r.sa ≠ none ∨ r.sd ≠ none) ∧ ∀ a d, r.sa = some a → r.sd = some d → a ≤ d)

/-- R7, R9, R10, R104, R145: the loads of the ACTIVE bank and of the parameters. Without the hold a LOAD_CALL to ACTIVE is
NOT_HELD. In HELD, a new service number joins the bank with cleared live fields and is evaluated; one already there has its
scheduled fields replaced, and is recomputed and evaluated, and a kind that becomes STOPS clears its stop and removes its
STOP_REQUEST; the board is rebuilt. LOAD_PARAMS replaces the store, recomputes and evaluates every call, recomputes the
level and rebuilds the board. A kind that becomes REQUEST, with a ticket sold, wants a stop if the call is still saleable,
and does nothing more if it is not. R144, R145, R200: the parameters of a LOAD_PARAMS, each clamped into its range, and each
threshold raised to its predecessors. The place of a change of kind after the evaluation, by which a call that the load
lapses wants no stop, is the model's choice (log 11); so are the order of the bank (log 32) and of the reply after every
other effect on the queues (log 39); that a withdrawal is followed by no offer of the waiting stops is deduced (log 12). -/
def Obligations.ActiveLoads : Prop :=
  ∀ (addr : Byte) (p : List Byte) (s : State), GoodBank s.calls.active →
    (∀ f, takesMessage s .loadCall addr p → readLoadCall p = some f → f.bank = 0 →
      let r := f.record
      let reply (o : LoadOutcome) (u : State) := exec (.loadCall addr p) s = .next (offerReply .call o (some r.service) u)
      (s.issue.hold ≠ .held → reply .notHeld (frameDone s)) ∧
      (s.issue.hold = .held → r.timesOk = false → reply .badRecord (frameDone s)) ∧
      (s.issue.hold = .held → r.timesOk = true → (∀ c ∈ s.calls.active, c.service ≠ r.service) →
        (96 ≤ s.calls.active.length → reply .bankFull (frameDone s)) ∧
        (s.calls.active.length < 96 →
          ∃ bank, reply .accepted (rebuild (evaluateCall r.service { frameDone s with
              calls := { s.calls with active := bank } })) ∧
            bank.Pairwise (fun c d => c.service < d.service) ∧
            ∀ c, c ∈ bank ↔ c = freshCall r ∨ c ∈ s.calls.active)) ∧
      (s.issue.hold = .held → r.timesOk = true → ∀ old ∈ s.calls.active, old.service = r.service →
        let u := evaluateCall r.service { frameDone s with
          calls := { s.calls with
            active := s.calls.active.map fun c => if c.service = r.service then recompute { c with toScheduled := r } else c } }
        (old.kind = r.kind → reply .accepted (rebuild u)) ∧
        (old.kind = .request → r.kind = .stops → reply .accepted (rebuild (removeStop r.service { u with
          calls := { u.calls with
            active := u.calls.active.map fun c =>
              if c.service = r.service then
                { c with stop := .none, origin := none, wantedAt := none, ackTimer := none }
              else c } }))) ∧
        (old.kind = .stops → r.kind = .request → old.sold = 0 → reply .accepted (rebuild u)) ∧
        (old.kind = .stops → r.kind = .request → 0 < old.sold →
          (∃ c ∈ u.calls.active, c.service = r.service ∧ c.state.saleable = true) →
          reply .accepted (rebuild (wantStop r.service .ticket u))) ∧
        (old.kind = .stops → r.kind = .request → 0 < old.sold →
          (∀ c ∈ u.calls.active, c.service = r.service → c.state.saleable = false) →
          reply .accepted (rebuild u)))) ∧
    (p.length = 39 → readParams p = some
      { salesMargin := min (field p 0 2) 600
        requestMargin := max 120 (min (field p 2 2) 1800)
        dueWindow := max 60 (min (field p 4 2) 600)
        boardHorizon := max 30 (min (field p 6 1) 240)
        lateThreshold := max 1 (min (field p 7 1) 15)
        cancelledHold := min (field p 8 1) 60
        stalenessLimit := max 300 (min (field p 9 2) 3600)
        stopThreshold := max 5 (min (field p 11 1) 60)
        attribution := max 300 (min (field p 12 2) 3600)
        wakeWindow := max 5 (min (field p 14 1) 60)
        idleDelay := max 30 (min (field p 15 2) 900)
        thresholds := (List.range 7).map fun k =>
          ((List.range (k + 1)).map fun j => field p (17 + 2 * j) 2).foldl max 0
        levels := (List.range 8).map fun k => min (field p (31 + k) 1) 63 }) ∧
    (∀ q, takesMessage s .loadParams addr p → readParams p = some q → exec (.loadParams addr p) s = .next
      (offerReply .params .accepted none (rebuild (relevel (recomputeAll
        { frameDone s with line := { (frameDone s).line with params := q } })))))

/-! ## The outbound queues and the upward line (chapters 06 and 07) -/

/-- R131, R132, R150: an offered item joins the tail of its queue, or is discarded and counted by a full queue; a
STOP_REQUEST offered to a full urgent queue takes the place of the oldest item that is none, which is counted, or is not
taken where there is no such item. R148: a cause of a STATUS offers one if none is queued, sets the owed mark if the queued
one is on the line, and does nothing else; the STATUS period is such a cause in ADMITTED and starts again at 300 s. -/
def Obligations.QueuesAndStatus : Prop :=
  (∀ (l : Line) (i : Item),
    let more := if l.discards < 65535 then l.discards + 1 else 65535
    (l.urgent.length < 16 → l.enqueue .urgent i = { l with urgent := l.urgent ++ [i] }) ∧
    (16 ≤ l.urgent.length → l.discards ≤ 65535 → l.enqueue .urgent i = { l with discards := more }) ∧
    (l.routine.length < 32 → l.enqueue .routine i = { l with routine := l.routine ++ [i] }) ∧
    (32 ≤ l.routine.length → l.discards ≤ 65535 → l.enqueue .routine i = { l with discards := more }) ∧
    (l.urgent.length < 16 → l.offerStop i = some { l with urgent := l.urgent ++ [i] }) ∧
    (16 ≤ l.urgent.length → (∀ j ∈ l.urgent, j.stopOf ≠ none) → l.offerStop i = none) ∧
    (∀ front j back, l.urgent = front ++ j :: back → 16 ≤ l.urgent.length → l.discards ≤ 65535 →
      (∀ x ∈ front, x.stopOf ≠ none) → j.stopOf = none →
      ∃ m, l.offerStop i = some m ∧ m = { l with urgent := front ++ back ++ [i], discards := more, tx := m.tx } ∧
        (front ≠ [] → m.tx = l.tx) ∧ m.tx.map TxFrame.withdrawn = l.tx.map TxFrame.withdrawn)) ∧
  ∀ s : State,
    let isQueued : Prop := Item.status ∈ s.line.urgent ∨ Item.status ∈ s.line.routine
    let isSending : Prop := ∃ f, s.line.tx = some f ∧ f.queued = true ∧
      (f.source = .urgentItem .status ∨ f.source = .routineItem .status)
    (¬ isQueued → statusCause s = { s with line := s.line.enqueue s.line.classMap.status .status }) ∧
    (isQueued → isSending → statusCause s = { s with line := { s.line with statusOwed := true } }) ∧
    (isQueued → ¬ isSending → statusCause s = s) ∧
    (s.line.link = .admitted → s.line.statusTimer = some 0 → exec .statusPeriod s
      = .next (statusCause { s with line := { s.line with statusTimer := some 4800 } }))

/-- R19, R20: a cause of a stop reaches a REQUEST call in stop state NONE: it becomes WANTED before its request cut-off, and
a STOP_REQUEST is offered, or LATE at or after it, with the origin and the time; any other call is left as it is. R20, R131,
R132: an offer point offers the waiting calls, those in a saleable state and WANTED with none queued, one each, in the order
of approach time and service number, until one is not taken. Taken are the first of them, as many as there are items of the
queue's 16 that are no STOP_REQUEST; their items join the tail in that order. For each that a full queue takes, the oldest
item that is no STOP_REQUEST is removed and counted, the rest closing up in their order; a frame on the line goes on, but no
longer at a head that was removed. An offer that is not taken finds 16 STOP_REQUEST items, and nothing is lost. -/
def Obligations.StopsWantedAndOffered : Prop :=
  (∀ (n : Nat) (o : Origin) (s : State), GoodBank s.calls.active →
    (∀ c a, c ∈ s.calls.active → c.service = n → c.kind = .request → c.stop = .none → approach c = some a →
      let isEarly : Prop := s.clock.time.sec + s.line.params.requestMargin < a
      let asked (st : StopState) : State := { s with
        calls := { s.calls with
          active := s.calls.active.map fun d =>
            if d.service = n then { c with stop := st, origin := some o, wantedAt := some s.clock.time.sec } else d } }
      (isEarly → wantStop n o s = offerStops (asked .wanted)) ∧ (¬ isEarly → wantStop n o s = asked .late)) ∧
    ((∀ c ∈ s.calls.active, c.service = n → c.kind = .stops ∨ c.stop ≠ .none) → wantStop n o s = s)) ∧
  ∀ s : State, GoodBank s.calls.active → s.line.urgent.length ≤ 16 → s.line.discards ≤ 65535 →
    let others (is : List Item) : List Item := is.filter fun i => i.stopOf = none
    let stops (is : List Item) : List Item := is.filter fun i => i.stopOf ≠ none
    ∃ (order : List Call) (front back : List Item),
      order.Perm (s.calls.active.filter fun c => (c.state = .scheduled || c.state = .due || c.state = .arrived) &&
        c.stop = .wanted && s.line.urgent.all fun i => i.stopOf ≠ some c.service) ∧
      order.Pairwise (fun c d => c.service ≠ d.service ∧ ∀ a b, approach c = some a → approach d = some b →
        a < b ∨ (a = b ∧ c.service ≤ d.service)) ∧
      let offers := min order.length (16 - (stops s.line.urgent).length)
      let lost := s.line.urgent.length + offers - 16
      s.line.urgent = front ++ back ∧ (others front).length = lost ∧
      offerStops s = { s with line := { s.line with
        urgent := stops front ++ back ++ (order.take offers).map fun c => .stopRequest c.service c.origin c.wantedAt
        discards := min (s.line.discards + lost) 65535
        tx := if 0 < lost ∧ s.line.urgent.head?.any (fun i => i.stopOf = none) = true then
            s.line.tx.map fun f => { f with queued := match f.source with
              | .urgentItem _ => false
              | .join | .routineItem _ | .sale _ => f.queued }
          else s.line.tx } } ∧
      (offers < order.length → (offerStops s).line.urgent.length = 16 ∧ others (offerStops s).line.urgent = [])

/-- R108, R112, R113, R114, R115: a symbol boundary starts the frame its link state, queues, cursor, turn marker, idle count
and thresholds give; its symbols are those of its octets. R110, R122, R129, R139, R143, R149, R200: the octets of a frame
before its check, by its source: the halt's address, the kind, the length, and the fields of a JOIN, of a SALE from its
journal record, and of each item; a number most significant octet first, an absent field all ones, a list of one after its
count, an enumeration by its code. No frame starts while one is in progress, in DARK, HUNT or LOST, in SYNCED with no JOIN
pending or below the urgent threshold, or in ADMITTED below the threshold of the class whose turn it is or with nothing
waiting: an urgent item below its threshold holds every routine frame back. R112, R116, R117: each period counts the echo
and compares the symbol sent with it, up to the first difference. R111: the receiver takes the message symbol, except in
DARK: it counts marks up to 6, and a space after 6 of them begins a frame, whose time is recorded. R113: a raised threshold
returns to base once the idle count has reached the raised value. LINE_UP changes at the symbol boundaries of
UPWARD_FRAME_START and SYMBOL_PERIOD_END alone, one symbol to a period, and is mark from a full reset (R108): a frame given
up within a period leaves it standing to the end of that period (R116, R117, R119). Inside a frame the receiver drops a
space after 5 marks, a sixth mark aborts the frame, and a length octet above 40 ends it (R111). A start that no rule allows
changes nothing by the model's choice (log 1); the receiver's count of marks is deduced (log 13); that a start whose
DOWNWARD_FRAME_START was not given is recorded at the end of its period is the model's choice (log 36); that a threshold
returns at or above the raised value is deduced (log 22), and so is that the receiver stands still in DARK (log 33). -/
def Obligations.FramesStartAndRun : Prop :=
  (∀ (s : State) (src : TxSource), s.line.tx = none →
    (s.line.link = .synced ∧ src = .join ∧ s.line.joinPending = true ∧ s.line.urgentThreshold ≤ s.line.idleCount ∨
      s.line.link = .admitted ∧ (∃ i rest, s.line.urgent = i :: rest ∧ src = .urgentItem i) ∧
        s.line.urgentThreshold ≤ s.line.idleCount ∨
      s.line.link = .admitted ∧ s.line.urgent = [] ∧ s.line.routineThreshold ≤ s.line.idleCount ∧
        ((∃ i rest, s.line.routine = i :: rest ∧ src = .routineItem i ∧ (s.line.cursor = none ∨ s.line.turn = .queue)) ∨
          ∃ n, s.line.cursor = some n ∧ src = .sale n ∧ (s.line.routine = [] ∨ s.line.turn = .journal))) →
    exec .upwardFrameStart s = .next { s with
      line := { s.line with
        tx := some
          { source := src
            queued := src.isItem
            octets := sourceBody s src
            rest := ((stuff 0 (false :: bitsOf (sourceBody s src ++ crcBytes (sourceBody s src))))).map toSymbol
            echo := .equal
            reused := s.line.tableReused
            rearmed := false }
        up := .space } }) ∧
  (∀ s : State,
    let frame (kind : Byte) (p : List Byte) : List Byte :=
      BitVec.ofNat 8 s.line.address :: kind :: BitVec.ofNat 8 p.length :: p
    let left := beBytes 2 (s.issue.blocks.map Block.count).sum
    sourceBody s .join = frame 0x41#8 (s.clock.startKind.code :: (match s.issue.journal with
      | [] => [0x00#8]
      | t :: _ => 0x01#8 :: beBytes 4 t.sequence) ++ left) ∧
    (∀ n t, s.issue.journal.find? (fun x => x.sequence = n) = some t → sourceBody s (.sale n) = frame 0x43#8
      (beBytes 4 t.sequence ++ beBytes 3 t.serial ++ beBytes 2 t.day.toNat ++ beBytes 3 t.issueTime ++ optBytes 2 t.service
        ++ beBytes 2 t.dest ++ [t.kind.code, BitVec.ofNat 8 t.concession] ++ beBytes 2 t.fare
        ++ [BitVec.ofNat 8 t.payment])) ∧
    ∀ i src, src = .urgentItem i ∨ src = .routineItem i → sourceBody s src = match i with
      | .status => frame 0x42#8 ([s.clock.timeState.code, BitVec.ofNat 8 s.clock.disputes]
          ++ beBytes 2 s.issue.journal.length ++ left ++ [s.issue.hold.code, s.screen.supply.code,
            (if s.line.tableReused then 0x01#8 else 0x00#8) ||| (if s.screen.supply = .fault then 0x02#8 else 0x00#8)]
          ++ beBytes 2 s.line.badFrames ++ beBytes 2 s.line.contentions ++ beBytes 2 s.line.faults
          ++ beBytes 2 s.line.discards)
      | .stopRequest n o w => frame 0x44#8 (beBytes 2 n ++ [match o with
          | some x => x.code
          | none => 0xFF#8] ++ optBytes 3 w)
      | .observation k n t => frame 0x45#8 (k.code :: optBytes 2 n ++ optBytes 3 t)
      | .serialAsk n => frame 0x46#8 (beBytes 2 n)
      | .holdGranted => frame 0x47#8 []
      | .holdEnded r => frame 0x48#8 [r.code]
      | .loadReply k o r => frame 0x49#8 (k.code :: o.code :: match r with
          | none => [0x00#8]
          | some x => 0x01#8 :: beBytes 3 x)) ∧
  (∀ n, beBytes 2 n = [BitVec.ofNat 8 (n / 256), BitVec.ofNat 8 n] ∧
    beBytes 3 n = [BitVec.ofNat 8 (n / 65536), BitVec.ofNat 8 (n / 256), BitVec.ofNat 8 n] ∧
    beBytes 4 n = BitVec.ofNat 8 (n / 16777216) :: beBytes 3 n ∧
    ∀ w, optBytes w (some n) = beBytes w n ∧ optBytes w none = List.replicate w 0xFF#8) ∧
  (
    let codes (n : Nat) : List Byte := (List.range n).map fun k => BitVec.ofNat 8 k
    [BranchCondition.normal, .disrupted, .suspended, .closed].map BranchCondition.code = codes 4 ∧
    [TimeState.unset, .locked, .holdover].map TimeState.code = codes 3 ∧
    [LinkState.dark, .hunt, .synced, .admitted, .lost].map LinkState.code = codes 5 ∧
    [Hold.free, .asked, .held].map Hold.code = codes 3 ∧
    [CallKind.stops, .request].map CallKind.code = codes 2 ∧
    [TicketKind.single, .ret, .dayReturn].map TicketKind.code = codes 3 ∧
    [StopState.none, .wanted, .sent, .confirmed, .late].map StopState.code = codes 5 ∧
    [ScreenMode.auto, .on, .off].map ScreenMode.code = codes 3 ∧
    [Supply.dark, .powering, .lampSettling, .biasSettling, .lit, .fault].map Supply.code = codes 6 ∧
    [RowStatus.cancelled, .atPlatform, .due, .late, .onTime].map RowStatus.code = codes 5 ∧
    [StartKind.warm, .cold].map StartKind.code = codes 2 ∧
    [Origin.ticket, .button].map Origin.code = codes 2 ∧
    [EndReason.released, .expired].map EndReason.code = codes 2 ∧
    [ObservationKind.arrival, .departure, .pass, .standing, .unmatchedArrival, .unmatchedDeparture].map
      ObservationKind.code = codes 6 ∧
    0x00#8 :: [LoadKind.call, .clear, .ending, .fareDest, .farePrice, .concession, .params, .time, .serialGrant].map
      LoadKind.code = codes 10 ∧
    [LoadOutcome.accepted, .notHeld, .bankFull, .tableFull, .badRecord, .countMismatch, .listFull, .overlap,
      .reissue].map LoadOutcome.code = codes 9 ∧
    [Status.ok, .empty, .badRequest, .wrongPort, .noTime, .held, .closed, .unknownDest, .unknownConcession, .suspended,
      .unknownCall, .callGone, .notServed, .tooLate, .peak, .noSerial, .journalFull, .noQuote, .screenLit,
      .noticesPending].map Status.code = codes 20) ∧
  (∀ s : State, s.line.tx ≠ none ∨ s.line.link = .dark ∨ s.line.link = .hunt ∨ s.line.link = .lost ∨
      (s.line.link = .synced ∧ (s.line.joinPending = false ∨ s.line.idleCount < s.line.urgentThreshold)) ∨
      (s.line.link = .admitted ∧ s.line.urgent ≠ [] ∧ s.line.idleCount < s.line.urgentThreshold) ∨
      (s.line.link = .admitted ∧ s.line.urgent = [] ∧
        (s.line.idleCount < s.line.routineThreshold ∨ (s.line.routine = [] ∧ s.line.cursor = none))) →
    exec .upwardFrameStart s = .next s) ∧
  (∀ (m e : Symbol) (s : State), s.line.idleCount ≤ 255 →
    exec (.symbolPeriodEnd m e) s = .next { s with
      clock :=
        if m = .space ∧ s.line.link ≠ .dark ∧ s.line.rx.phase.inFrame = false ∧ s.line.rx.marks = 6 then
          { s.clock with
            frameStart := some { localTime := s.clock.time, crystal := s.clock.crystal, disturbed := false } }
        else s.clock
      line := { s.line with
        idleCount := if e = .space then 0 else if s.line.idleCount < 255 then s.line.idleCount + 1 else 255
        rx := if s.line.link = .dark then s.line.rx else rxSymbol s.line.rx m
        tx := s.line.tx.map fun f =>
          if f.echo ≠ .equal then f
          else match f.rest with
            | [] => f
            | x :: rest =>
              if x = e then { f with rest := rest }
              else { f with echo := if x = .mark then .contention else .fault }
        up := match s.line.tx with
          | none => .mark
          | some f => if f.echo = .equal ∧ f.rest.head? = some e then f.rest.tail.headD .mark else .mark } }) ∧
  (∀ (c : Instr) (s t : State), exec c s = .next t → (∀ pins, c ≠ .fullReset pins) → c ≠ .upwardFrameStart →
    (∀ m e, c ≠ .symbolPeriodEnd m e) → lineUp t = lineUp s) ∧
  (∀ (pins : ResetPins) (s t : State), exec (.fullReset pins) s = .next t → lineUp t = .mark) ∧
  (∀ r : Receiver,
    (r.phase.inFrame = false → rxSymbol r .mark = { r with marks := if r.marks < 6 then r.marks + 1 else 6 } ∧
      rxSymbol r .space = if r.marks = 6 then { marks := 0, phase := .receiving [] } else { r with marks := 0 }) ∧
    (r.phase = .starting → rxSymbol r .space = { marks := 0, phase := .receiving [] } ∧ rxSymbol r .mark = r) ∧
    ∀ bits, r.phase = .receiving bits →
      (r.marks = 5 → rxSymbol r .mark = { marks := 0, phase := .bad .aborted } ∧ rxSymbol r .space = { r with marks := 0 }) ∧
      (r.marks ≠ 5 → ∀ m : Symbol,
        (bits.length < 23 → rxSymbol r m =
          { marks := if m = .mark then r.marks + 1 else 0, phase := .receiving (bits ++ [decide (m = .mark)]) }) ∧
        ∀ address kind length : Byte, bits ++ [decide (m = .mark)] = bitsOf [address, kind, length] → 40 < length.toNat →
          rxSymbol r m = { marks := 0, phase := .bad .length })) ∧
  ∀ s : State, exec .thresholdReturn s = .next { s with line := { s.line with
    urgentThreshold := if s.line.urgentThreshold = 8 ∧ 8 ≤ s.line.idleCount then 6 else s.line.urgentThreshold
    routineThreshold := if s.line.routineThreshold = 13 ∧ 13 ≤ s.line.idleCount then 11 else s.line.routineThreshold } }

/-- R116, R117, R119, R128: a frame that meets a contention loss or a line fault ends with its source as it was, and is
counted; the third fault of a run moves the link from ADMITTED to LOST and from SYNCED to HUNT. -/
def Obligations.FramesLost : Prop :=
  ∀ (s : State) (f : TxFrame), s.line.tx = some f → s.line.contentions ≤ 65535 → s.line.faults ≤ 65535 →
    let ended : Line := { s.line with
      tx := none, statusOwed := if f.carriesStatus then false else s.line.statusOwed }
    (f.echo = .contention → exec .contentionLoss s = .next { s with
      line := { ended with contentions := if s.line.contentions < 65535 then s.line.contentions + 1 else 65535 } }) ∧
    (f.echo = .fault →
      let u : State := { s with
        line := { ended with
          faults := if s.line.faults < 65535 then s.line.faults + 1 else 65535, faultRun := s.line.faultRun + 1 } }
      (s.line.faultRun < 2 → exec .lineFault s = .next u) ∧
      (2 ≤ s.line.faultRun → s.line.link = .admitted → exec .lineFault s = .next (setLink .lost u)) ∧
      (2 ≤ s.line.faultRun → s.line.link = .synced → exec .lineFault s = .next (setLink .hunt u)))

/-- R113, R115, R117, R118, R21, R20, R122, R133, R139, R148: a frame whose last symbol has been echoed equal ends the fault
run, raises its class's threshold, and acts on its source: an item leaves its queue, an urgent departure being followed by
the offers of the waiting stops; a STOP_REQUEST still queued makes its call SENT for 20 s, the board rebuilt; a STATUS
clears the flag it carried and is followed by one that is owed; a SALE moves the cursor on and runs the acknowledgement
timer; a JOIN starts its timer; and the turn marker changes after a routine frame. That a STATUS owed is offered before the
waiting stops is the model's choice (log 38), and what a STATUS does whose item the discipline has removed while its frame
was on the line is deduced (log 34). -/
def Obligations.FramesCompleted : Prop :=
  ∀ (s : State) (f : TxFrame), s.line.tx = some f → f.echo = .equal → f.rest = [] →
    let urgentUp : Line := { s.line with tx := none, faultRun := 0, urgentThreshold := 8 }
    let routineUp : Line := { s.line with tx := none, faultRun := 0, routineThreshold := 13 }
    (f.source = .join → exec .frameComplete s = .next { s with
      line := { urgentUp with joinPending := false, joinTimer := some 80 } }) ∧
    (∀ n o w, f.source = .urgentItem (.stopRequest n o w) → f.queued = true →
      exec .frameComplete s = .next (offerStops (rebuild { s with
        line := { urgentUp with urgent := s.line.urgent.tail }
        calls := { s.calls with
          active := s.calls.active.map fun c =>
            if c.service = n then { c with stop := .sent, ackTimer := some 320 } else c } }))) ∧
    (∀ n o w, f.source = .urgentItem (.stopRequest n o w) → f.queued = false →
      exec .frameComplete s = .next { s with line := urgentUp }) ∧
    (∀ i, f.source = .urgentItem i → i.stopOf = none → i ≠ .status →
      exec .frameComplete s = .next (if f.queued then
        offerStops { s with line := { urgentUp with urgent := s.line.urgent.tail } } else { s with line := urgentUp })) ∧
    (∀ i, f.source = .routineItem i → i.stopOf = none → i ≠ .status →
      exec .frameComplete s = .next { s with
        line := { routineUp with
          turn := .journal, routine := if f.queued then s.line.routine.tail else s.line.routine } }) ∧
    (f.source = .urgentItem .status →
      let l : Line := { urgentUp with
        urgent := if f.queued then s.line.urgent.tail else s.line.urgent
        tableReused := s.line.tableReused && !(f.reused && !f.rearmed)
        statusOwed := false }
      let m : Line :=
        if s.line.statusOwed = true ∧ Item.status ∉ l.urgent ∧ Item.status ∉ l.routine then
          l.enqueue s.line.classMap.status .status
        else l
      exec .frameComplete s = .next (if f.queued then offerStops { s with line := m } else { s with line := m })) ∧
    (f.source = .routineItem .status →
      let l : Line := { routineUp with
        turn := .journal
        routine := if f.queued then s.line.routine.tail else s.line.routine
        tableReused := s.line.tableReused && !(f.reused && !f.rearmed)
        statusOwed := false }
      let isQueued : Prop := Item.status ∈ l.urgent ∨ Item.status ∈ l.routine
      (s.line.statusOwed = false ∨ isQueued → exec .frameComplete s = .next { s with line := l }) ∧
      (s.line.statusOwed = true → ¬ isQueued →
        exec .frameComplete s = .next { s with line := l.enqueue s.line.classMap.status .status })) ∧
    (∀ n, f.source = .sale n →
      let highest := max s.line.highestSent n
      exec .frameComplete s = .next { s with
        line := { routineUp with
          turn := .queue
          highestSent := highest
          cursor := if s.line.cursor ≠ some n then s.line.cursor
            else if s.issue.journal.any (fun t => t.sequence = n + 1) then some (n + 1) else none
          saleAckTimer := if s.issue.journal.any (fun t => t.sequence ≤ highest) then some 1920 else none } })

/-! ## Invariants every step keeps -/

/-- The state after reset is sound: it meets every invariant of the statements below (R1, R66, R67, R81, R120, R138, R144,
R152, R169, R186). The kind of start and the pins of the state after reset are the model's choice (log 4). -/
def Obligations.ResetIsSound : Prop :=
  let s := State.reset
  BankInv s ∧ StopInv s ∧ SaleInv s ∧ StockInv s.issue ∧ DrainInv s ∧ ClockInv s.clock ∧ s.line.params.InRange ∧
    FareInv s.fares ∧ LinkInv s.line ∧ QueueInv s.line ∧ PlatformInv s.platform ∧ SupplyInv s ∧ BoardInv s ∧
    PortInv .vending s.vport ∧ PortInv .signage s.sport

/-- Every step keeps the banks sound: at most 96 records in range, in rising order of service number, and nothing in an
EMPTY bank (R1 to R7); and on sound banks it keeps the stops sound: a queued STOP_REQUEST is that of a saleable REQUEST call
in WANTED, as the call holds it, one for each at most, and the acknowledgement timer runs only in SENT (R4, R18, R20, R132).
The rising order of the banks is the model's choice (log 32), which R5 leaves open. -/
def Obligations.BankAndStopKept : Prop :=
  ∀ s t : State, step s = .next t → BankInv s → BankInv t ∧ (StopInv s → StopInv t)

/-- Every step keeps the pending sale and the table hold sound (R81, R89, R100): no sale in HELD or while the time is UNSET,
a sale in ASKED, the limit timer exactly in HELD, and a QUOTED sale bound only to a call in a saleable state. -/
def Obligations.SaleKept : Prop :=
  ∀ s t : State, step s = .next t → BankInv s → SaleInv s → SaleInv t

/-- Every step keeps the serial stock and the journal sound (R93, R95, R97, R98): no serial is unissued twice, or unissued
and in the journal, or in two records, and sequence numbers rise by one to the counter; and with them the drain (R138,
R139): the cursor names a record or the end, nothing beyond the last record was sent, and the acknowledgement timer runs
only while a sent record waits. -/
def Obligations.StockAndDrainKept : Prop :=
  ∀ s t : State, step s = .next t → StockInv s.issue → StockInv t.issue ∧ (DrainInv s → DrainInv t)

/-- Every step keeps the time base, the halt parameters and the fare table in range (R51, R52, R56 to R58, R67, R68, R70,
R144). The order of the fare destinations is the model's choice (log 32). -/
def Obligations.StoresKept : Prop :=
  ∀ s t : State, step s = .next t →
    (ClockInv s.clock → ClockInv t.clock) ∧ (s.line.params.InRange → t.line.params.InRange) ∧
      (FareInv s.fares → FareInv t.fares)

/-- Every step keeps the link state, its timers, thresholds and frame in step with one another (R113, R117, R119 to R125),
and the queues within their sizes with one STATUS at most (R128, R131, R148, R150). -/
def Obligations.LineKept : Prop :=
  ∀ s t : State, step s = .next t → (LinkInv s.line → LinkInv t.line) ∧ (QueueInv s.line → QueueInv t.line)

/-- Every step keeps the occupancy state, its records and its timers in step with one another and with OCC (R152 to R156,
R160, R166, R168). That moments no longer in use are absent is the model's choice (log 23). -/
def Obligations.PlatformKept : Prop :=
  ∀ s t : State, step s = .next t → PlatformInv s.platform → PlatformInv t.platform

/-- Every step keeps the enables, the timers and the level those of the supply state, a quiet processor switched off, and
the trim in range (R169, R170, R179, R182). The settling stages are not counted (log 14). -/
def Obligations.SupplyKept : Prop :=
  ∀ s t : State, step s = .next t → SupplyInv s → SupplyInv t

/-- Every step keeps the board's banner that of the stores and its rows at most six, each of an ACTIVE call not DEPARTED or
LAPSED, and none while the time is UNSET (R41, R44, R48); and each port's notices and mask those the port has, with no
transaction open between commands (R186, R187, R201). No transaction is open between commands, since a command is a whole
transaction (log 16). -/
def Obligations.BoardAndPortsKept : Prop :=
  ∀ s t : State, step s = .next t → (BoardInv s → BoardInv t) ∧
    (PortInv .vending s.vport → PortInv .vending t.vport) ∧ (PortInv .signage s.sport → PortInv .signage t.sport)
end

