-- ==== Sys2Proof/Laws/State.lean ====
section
/-! SUPPORT. Projection lemmas of State: for each update that a shared operation makes without a case split, each block it
leaves alone. -/

namespace Sys2Proof.Machine

@[simp] theorem State.mapActive_board (f : Call → Call) (s : State) : (s.mapActive f).board = s.board := rfl
@[simp] theorem State.mapActive_clock (f : Call → Call) (s : State) : (s.mapActive f).clock = s.clock := rfl
@[simp] theorem State.mapActive_fares (f : Call → Call) (s : State) : (s.mapActive f).fares = s.fares := rfl
@[simp] theorem State.mapActive_issue (f : Call → Call) (s : State) : (s.mapActive f).issue = s.issue := rfl
@[simp] theorem State.mapActive_line (f : Call → Call) (s : State) : (s.mapActive f).line = s.line := rfl
@[simp] theorem State.mapActive_platform (f : Call → Call) (s : State) : (s.mapActive f).platform = s.platform := rfl
@[simp] theorem State.mapActive_screen (f : Call → Call) (s : State) : (s.mapActive f).screen = s.screen := rfl
@[simp] theorem State.mapActive_vport (f : Call → Call) (s : State) : (s.mapActive f).vport = s.vport := rfl
@[simp] theorem State.mapActive_sport (f : Call → Call) (s : State) : (s.mapActive f).sport = s.sport := rfl
@[simp] theorem State.mapActive_wakes (f : Call → Call) (s : State) : (s.mapActive f).wakes = s.wakes := rfl
@[simp] theorem State.mapActive_pending (f : Call → Call) (s : State) : (s.mapActive f).pending = s.pending := rfl

@[simp] theorem State.mapCall_board (n : Nat) (f : Call → Call) (s : State) : (s.mapCall n f).board = s.board := rfl
@[simp] theorem State.mapCall_clock (n : Nat) (f : Call → Call) (s : State) : (s.mapCall n f).clock = s.clock := rfl
@[simp] theorem State.mapCall_fares (n : Nat) (f : Call → Call) (s : State) : (s.mapCall n f).fares = s.fares := rfl
@[simp] theorem State.mapCall_issue (n : Nat) (f : Call → Call) (s : State) : (s.mapCall n f).issue = s.issue := rfl
@[simp] theorem State.mapCall_line (n : Nat) (f : Call → Call) (s : State) : (s.mapCall n f).line = s.line := rfl
@[simp] theorem State.mapCall_platform (n : Nat) (f : Call → Call) (s : State) : (s.mapCall n f).platform = s.platform := rfl
@[simp] theorem State.mapCall_screen (n : Nat) (f : Call → Call) (s : State) : (s.mapCall n f).screen = s.screen := rfl
@[simp] theorem State.mapCall_vport (n : Nat) (f : Call → Call) (s : State) : (s.mapCall n f).vport = s.vport := rfl
@[simp] theorem State.mapCall_sport (n : Nat) (f : Call → Call) (s : State) : (s.mapCall n f).sport = s.sport := rfl
@[simp] theorem State.mapCall_wakes (n : Nat) (f : Call → Call) (s : State) : (s.mapCall n f).wakes = s.wakes := rfl
@[simp] theorem State.mapCall_pending (n : Nat) (f : Call → Call) (s : State) : (s.mapCall n f).pending = s.pending := rfl

@[simp] theorem latchV_calls (n : VNotice) (s : State) : (latchV n s).calls = s.calls := rfl
@[simp] theorem latchV_board (n : VNotice) (s : State) : (latchV n s).board = s.board := rfl
@[simp] theorem latchV_clock (n : VNotice) (s : State) : (latchV n s).clock = s.clock := rfl
@[simp] theorem latchV_fares (n : VNotice) (s : State) : (latchV n s).fares = s.fares := rfl
@[simp] theorem latchV_issue (n : VNotice) (s : State) : (latchV n s).issue = s.issue := rfl
@[simp] theorem latchV_line (n : VNotice) (s : State) : (latchV n s).line = s.line := rfl
@[simp] theorem latchV_platform (n : VNotice) (s : State) : (latchV n s).platform = s.platform := rfl
@[simp] theorem latchV_screen (n : VNotice) (s : State) : (latchV n s).screen = s.screen := rfl
@[simp] theorem latchV_sport (n : VNotice) (s : State) : (latchV n s).sport = s.sport := rfl
@[simp] theorem latchV_wakes (n : VNotice) (s : State) : (latchV n s).wakes = s.wakes := rfl
@[simp] theorem latchV_pending (n : VNotice) (s : State) : (latchV n s).pending = s.pending := rfl

@[simp] theorem latchS_calls (n : SNotice) (s : State) : (latchS n s).calls = s.calls := rfl
@[simp] theorem latchS_board (n : SNotice) (s : State) : (latchS n s).board = s.board := rfl
@[simp] theorem latchS_clock (n : SNotice) (s : State) : (latchS n s).clock = s.clock := rfl
@[simp] theorem latchS_fares (n : SNotice) (s : State) : (latchS n s).fares = s.fares := rfl
@[simp] theorem latchS_issue (n : SNotice) (s : State) : (latchS n s).issue = s.issue := rfl
@[simp] theorem latchS_line (n : SNotice) (s : State) : (latchS n s).line = s.line := rfl
@[simp] theorem latchS_platform (n : SNotice) (s : State) : (latchS n s).platform = s.platform := rfl
@[simp] theorem latchS_screen (n : SNotice) (s : State) : (latchS n s).screen = s.screen := rfl
@[simp] theorem latchS_vport (n : SNotice) (s : State) : (latchS n s).vport = s.vport := rfl
@[simp] theorem latchS_wakes (n : SNotice) (s : State) : (latchS n s).wakes = s.wakes := rfl
@[simp] theorem latchS_pending (n : SNotice) (s : State) : (latchS n s).pending = s.pending := rfl

@[simp] theorem relevel_calls (s : State) : (relevel s).calls = s.calls := rfl
@[simp] theorem relevel_board (s : State) : (relevel s).board = s.board := rfl
@[simp] theorem relevel_clock (s : State) : (relevel s).clock = s.clock := rfl
@[simp] theorem relevel_fares (s : State) : (relevel s).fares = s.fares := rfl
@[simp] theorem relevel_issue (s : State) : (relevel s).issue = s.issue := rfl
@[simp] theorem relevel_line (s : State) : (relevel s).line = s.line := rfl
@[simp] theorem relevel_platform (s : State) : (relevel s).platform = s.platform := rfl
@[simp] theorem relevel_vport (s : State) : (relevel s).vport = s.vport := rfl
@[simp] theorem relevel_sport (s : State) : (relevel s).sport = s.sport := rfl
@[simp] theorem relevel_wakes (s : State) : (relevel s).wakes = s.wakes := rfl
@[simp] theorem relevel_pending (s : State) : (relevel s).pending = s.pending := rfl

@[simp] theorem sigpwrOn_calls (b : Bool) (s : State) : (sigpwrOn b s).calls = s.calls := rfl
@[simp] theorem sigpwrOn_board (b : Bool) (s : State) : (sigpwrOn b s).board = s.board := rfl
@[simp] theorem sigpwrOn_clock (b : Bool) (s : State) : (sigpwrOn b s).clock = s.clock := rfl
@[simp] theorem sigpwrOn_fares (b : Bool) (s : State) : (sigpwrOn b s).fares = s.fares := rfl
@[simp] theorem sigpwrOn_issue (b : Bool) (s : State) : (sigpwrOn b s).issue = s.issue := rfl
@[simp] theorem sigpwrOn_line (b : Bool) (s : State) : (sigpwrOn b s).line = s.line := rfl
@[simp] theorem sigpwrOn_platform (b : Bool) (s : State) : (sigpwrOn b s).platform = s.platform := rfl
@[simp] theorem sigpwrOn_vport (b : Bool) (s : State) : (sigpwrOn b s).vport = s.vport := rfl
@[simp] theorem sigpwrOn_pending (b : Bool) (s : State) : (sigpwrOn b s).pending = s.pending := rfl

@[simp] theorem sigpwrOff_calls (s : State) : (sigpwrOff s).calls = s.calls := rfl
@[simp] theorem sigpwrOff_board (s : State) : (sigpwrOff s).board = s.board := rfl
@[simp] theorem sigpwrOff_clock (s : State) : (sigpwrOff s).clock = s.clock := rfl
@[simp] theorem sigpwrOff_fares (s : State) : (sigpwrOff s).fares = s.fares := rfl
@[simp] theorem sigpwrOff_issue (s : State) : (sigpwrOff s).issue = s.issue := rfl
@[simp] theorem sigpwrOff_line (s : State) : (sigpwrOff s).line = s.line := rfl
@[simp] theorem sigpwrOff_platform (s : State) : (sigpwrOff s).platform = s.platform := rfl
@[simp] theorem sigpwrOff_vport (s : State) : (sigpwrOff s).vport = s.vport := rfl
@[simp] theorem sigpwrOff_wakes (s : State) : (sigpwrOff s).wakes = s.wakes := rfl
@[simp] theorem sigpwrOff_pending (s : State) : (sigpwrOff s).pending = s.pending := rfl

@[simp] theorem idleByDemand_calls (b : Bool) (s : State) : (idleByDemand s b).calls = s.calls := rfl
@[simp] theorem idleByDemand_board (b : Bool) (s : State) : (idleByDemand s b).board = s.board := rfl
@[simp] theorem idleByDemand_clock (b : Bool) (s : State) : (idleByDemand s b).clock = s.clock := rfl
@[simp] theorem idleByDemand_fares (b : Bool) (s : State) : (idleByDemand s b).fares = s.fares := rfl
@[simp] theorem idleByDemand_issue (b : Bool) (s : State) : (idleByDemand s b).issue = s.issue := rfl
@[simp] theorem idleByDemand_line (b : Bool) (s : State) : (idleByDemand s b).line = s.line := rfl
@[simp] theorem idleByDemand_platform (b : Bool) (s : State) : (idleByDemand s b).platform = s.platform := rfl
@[simp] theorem idleByDemand_vport (b : Bool) (s : State) : (idleByDemand s b).vport = s.vport := rfl
@[simp] theorem idleByDemand_sport (b : Bool) (s : State) : (idleByDemand s b).sport = s.sport := rfl
@[simp] theorem idleByDemand_wakes (b : Bool) (s : State) : (idleByDemand s b).wakes = s.wakes := rfl
@[simp] theorem idleByDemand_pending (b : Bool) (s : State) : (idleByDemand s b).pending = s.pending := rfl

@[simp] theorem removeStop_calls (n : Nat) (s : State) : (removeStop n s).calls = s.calls := rfl
@[simp] theorem removeStop_board (n : Nat) (s : State) : (removeStop n s).board = s.board := rfl
@[simp] theorem removeStop_clock (n : Nat) (s : State) : (removeStop n s).clock = s.clock := rfl
@[simp] theorem removeStop_fares (n : Nat) (s : State) : (removeStop n s).fares = s.fares := rfl
@[simp] theorem removeStop_issue (n : Nat) (s : State) : (removeStop n s).issue = s.issue := rfl
@[simp] theorem removeStop_platform (n : Nat) (s : State) : (removeStop n s).platform = s.platform := rfl
@[simp] theorem removeStop_screen (n : Nat) (s : State) : (removeStop n s).screen = s.screen := rfl
@[simp] theorem removeStop_vport (n : Nat) (s : State) : (removeStop n s).vport = s.vport := rfl
@[simp] theorem removeStop_sport (n : Nat) (s : State) : (removeStop n s).sport = s.sport := rfl
@[simp] theorem removeStop_wakes (n : Nat) (s : State) : (removeStop n s).wakes = s.wakes := rfl
@[simp] theorem removeStop_pending (n : Nat) (s : State) : (removeStop n s).pending = s.pending := rfl

@[simp] theorem frameDone_calls (s : State) : (frameDone s).calls = s.calls := rfl
@[simp] theorem frameDone_board (s : State) : (frameDone s).board = s.board := rfl
@[simp] theorem frameDone_clock (s : State) : (frameDone s).clock = s.clock := rfl
@[simp] theorem frameDone_fares (s : State) : (frameDone s).fares = s.fares := rfl
@[simp] theorem frameDone_issue (s : State) : (frameDone s).issue = s.issue := rfl
@[simp] theorem frameDone_platform (s : State) : (frameDone s).platform = s.platform := rfl
@[simp] theorem frameDone_screen (s : State) : (frameDone s).screen = s.screen := rfl
@[simp] theorem frameDone_vport (s : State) : (frameDone s).vport = s.vport := rfl
@[simp] theorem frameDone_sport (s : State) : (frameDone s).sport = s.sport := rfl
@[simp] theorem frameDone_wakes (s : State) : (frameDone s).wakes = s.wakes := rfl
@[simp] theorem frameDone_pending (s : State) : (frameDone s).pending = s.pending := rfl

@[simp] theorem countBad_calls (s : State) : (countBad s).calls = s.calls := rfl
@[simp] theorem countBad_board (s : State) : (countBad s).board = s.board := rfl
@[simp] theorem countBad_clock (s : State) : (countBad s).clock = s.clock := rfl
@[simp] theorem countBad_fares (s : State) : (countBad s).fares = s.fares := rfl
@[simp] theorem countBad_issue (s : State) : (countBad s).issue = s.issue := rfl
@[simp] theorem countBad_platform (s : State) : (countBad s).platform = s.platform := rfl
@[simp] theorem countBad_screen (s : State) : (countBad s).screen = s.screen := rfl
@[simp] theorem countBad_vport (s : State) : (countBad s).vport = s.vport := rfl
@[simp] theorem countBad_sport (s : State) : (countBad s).sport = s.sport := rfl
@[simp] theorem countBad_wakes (s : State) : (countBad s).wakes = s.wakes := rfl
@[simp] theorem countBad_pending (s : State) : (countBad s).pending = s.pending := rfl

@[simp] theorem setHold_calls (h : Hold) (l : Timer) (s : State) : (setHold h l s).calls = s.calls := rfl
@[simp] theorem setHold_board (h : Hold) (l : Timer) (s : State) : (setHold h l s).board = s.board := rfl
@[simp] theorem setHold_clock (h : Hold) (l : Timer) (s : State) : (setHold h l s).clock = s.clock := rfl
@[simp] theorem setHold_fares (h : Hold) (l : Timer) (s : State) : (setHold h l s).fares = s.fares := rfl
@[simp] theorem setHold_line (h : Hold) (l : Timer) (s : State) : (setHold h l s).line = s.line := rfl
@[simp] theorem setHold_platform (h : Hold) (l : Timer) (s : State) : (setHold h l s).platform = s.platform := rfl
@[simp] theorem setHold_screen (h : Hold) (l : Timer) (s : State) : (setHold h l s).screen = s.screen := rfl
@[simp] theorem setHold_sport (h : Hold) (l : Timer) (s : State) : (setHold h l s).sport = s.sport := rfl
@[simp] theorem setHold_wakes (h : Hold) (l : Timer) (s : State) : (setHold h l s).wakes = s.wakes := rfl
@[simp] theorem setHold_pending (h : Hold) (l : Timer) (s : State) : (setHold h l s).pending = s.pending := rfl

@[simp] theorem setLink_calls (l : LinkState) (s : State) : (setLink l s).calls = s.calls := rfl
@[simp] theorem setLink_board (l : LinkState) (s : State) : (setLink l s).board = s.board := rfl
@[simp] theorem setLink_clock (l : LinkState) (s : State) : (setLink l s).clock = s.clock := rfl
@[simp] theorem setLink_fares (l : LinkState) (s : State) : (setLink l s).fares = s.fares := rfl
@[simp] theorem setLink_issue (l : LinkState) (s : State) : (setLink l s).issue = s.issue := rfl
@[simp] theorem setLink_platform (l : LinkState) (s : State) : (setLink l s).platform = s.platform := rfl
@[simp] theorem setLink_screen (l : LinkState) (s : State) : (setLink l s).screen = s.screen := rfl
@[simp] theorem setLink_sport (l : LinkState) (s : State) : (setLink l s).sport = s.sport := rfl
@[simp] theorem setLink_wakes (l : LinkState) (s : State) : (setLink l s).wakes = s.wakes := rfl
@[simp] theorem setLink_pending (l : LinkState) (s : State) : (setLink l s).pending = s.pending := rfl

@[simp] theorem latchTimeState_calls (s : State) : (latchTimeState s).calls = s.calls := rfl
@[simp] theorem latchTimeState_board (s : State) : (latchTimeState s).board = s.board := rfl
@[simp] theorem latchTimeState_clock (s : State) : (latchTimeState s).clock = s.clock := rfl
@[simp] theorem latchTimeState_fares (s : State) : (latchTimeState s).fares = s.fares := rfl
@[simp] theorem latchTimeState_issue (s : State) : (latchTimeState s).issue = s.issue := rfl
@[simp] theorem latchTimeState_line (s : State) : (latchTimeState s).line = s.line := rfl
@[simp] theorem latchTimeState_platform (s : State) : (latchTimeState s).platform = s.platform := rfl
@[simp] theorem latchTimeState_screen (s : State) : (latchTimeState s).screen = s.screen := rfl
@[simp] theorem latchTimeState_wakes (s : State) : (latchTimeState s).wakes = s.wakes := rfl
@[simp] theorem latchTimeState_pending (s : State) : (latchTimeState s).pending = s.pending := rfl

@[simp] theorem tickTimers_board (s : State) : (tickTimers s).board = s.board := rfl
@[simp] theorem tickTimers_fares (s : State) : (tickTimers s).fares = s.fares := rfl
@[simp] theorem tickTimers_vport (s : State) : (tickTimers s).vport = s.vport := rfl
@[simp] theorem tickTimers_sport (s : State) : (tickTimers s).sport = s.sport := rfl
@[simp] theorem tickTimers_wakes (s : State) : (tickTimers s).wakes = s.wakes := rfl
@[simp] theorem tickTimers_pending (s : State) : (tickTimers s).pending = s.pending := rfl

@[simp] theorem endFilter_calls (s : State) : (endFilter s).calls = s.calls := rfl
@[simp] theorem endFilter_board (s : State) : (endFilter s).board = s.board := rfl
@[simp] theorem endFilter_clock (s : State) : (endFilter s).clock = s.clock := rfl
@[simp] theorem endFilter_fares (s : State) : (endFilter s).fares = s.fares := rfl
@[simp] theorem endFilter_issue (s : State) : (endFilter s).issue = s.issue := rfl
@[simp] theorem endFilter_line (s : State) : (endFilter s).line = s.line := rfl
@[simp] theorem endFilter_screen (s : State) : (endFilter s).screen = s.screen := rfl
@[simp] theorem endFilter_vport (s : State) : (endFilter s).vport = s.vport := rfl
@[simp] theorem endFilter_sport (s : State) : (endFilter s).sport = s.sport := rfl
@[simp] theorem endFilter_wakes (s : State) : (endFilter s).wakes = s.wakes := rfl
@[simp] theorem endFilter_pending (s : State) : (endFilter s).pending = s.pending := rfl

@[simp] theorem startSettling_calls (s : State) : (startSettling s).calls = s.calls := rfl
@[simp] theorem startSettling_board (s : State) : (startSettling s).board = s.board := rfl
@[simp] theorem startSettling_clock (s : State) : (startSettling s).clock = s.clock := rfl
@[simp] theorem startSettling_fares (s : State) : (startSettling s).fares = s.fares := rfl
@[simp] theorem startSettling_issue (s : State) : (startSettling s).issue = s.issue := rfl
@[simp] theorem startSettling_line (s : State) : (startSettling s).line = s.line := rfl
@[simp] theorem startSettling_screen (s : State) : (startSettling s).screen = s.screen := rfl
@[simp] theorem startSettling_vport (s : State) : (startSettling s).vport = s.vport := rfl
@[simp] theorem startSettling_sport (s : State) : (startSettling s).sport = s.sport := rfl
@[simp] theorem startSettling_wakes (s : State) : (startSettling s).wakes = s.wakes := rfl
@[simp] theorem startSettling_pending (s : State) : (startSettling s).pending = s.pending := rfl

@[simp] theorem raiseThreshold_calls (src : TxSource) (s : State) : (raiseThreshold src s).calls = s.calls := rfl
@[simp] theorem raiseThreshold_board (src : TxSource) (s : State) : (raiseThreshold src s).board = s.board := rfl
@[simp] theorem raiseThreshold_clock (src : TxSource) (s : State) : (raiseThreshold src s).clock = s.clock := rfl
@[simp] theorem raiseThreshold_fares (src : TxSource) (s : State) : (raiseThreshold src s).fares = s.fares := rfl
@[simp] theorem raiseThreshold_issue (src : TxSource) (s : State) : (raiseThreshold src s).issue = s.issue := rfl
@[simp] theorem raiseThreshold_platform (src : TxSource) (s : State) : (raiseThreshold src s).platform = s.platform := rfl
@[simp] theorem raiseThreshold_screen (src : TxSource) (s : State) : (raiseThreshold src s).screen = s.screen := rfl
@[simp] theorem raiseThreshold_vport (src : TxSource) (s : State) : (raiseThreshold src s).vport = s.vport := rfl
@[simp] theorem raiseThreshold_sport (src : TxSource) (s : State) : (raiseThreshold src s).sport = s.sport := rfl
@[simp] theorem raiseThreshold_wakes (src : TxSource) (s : State) : (raiseThreshold src s).wakes = s.wakes := rfl
@[simp] theorem raiseThreshold_pending (src : TxSource) (s : State) : (raiseThreshold src s).pending = s.pending := rfl

@[simp] theorem saleSent_calls (n : Nat) (s : State) : (saleSent n s).calls = s.calls := rfl
@[simp] theorem saleSent_board (n : Nat) (s : State) : (saleSent n s).board = s.board := rfl
@[simp] theorem saleSent_clock (n : Nat) (s : State) : (saleSent n s).clock = s.clock := rfl
@[simp] theorem saleSent_fares (n : Nat) (s : State) : (saleSent n s).fares = s.fares := rfl
@[simp] theorem saleSent_issue (n : Nat) (s : State) : (saleSent n s).issue = s.issue := rfl
@[simp] theorem saleSent_platform (n : Nat) (s : State) : (saleSent n s).platform = s.platform := rfl
@[simp] theorem saleSent_screen (n : Nat) (s : State) : (saleSent n s).screen = s.screen := rfl
@[simp] theorem saleSent_vport (n : Nat) (s : State) : (saleSent n s).vport = s.vport := rfl
@[simp] theorem saleSent_sport (n : Nat) (s : State) : (saleSent n s).sport = s.sport := rfl
@[simp] theorem saleSent_wakes (n : Nat) (s : State) : (saleSent n s).wakes = s.wakes := rfl
@[simp] theorem saleSent_pending (n : Nat) (s : State) : (saleSent n s).pending = s.pending := rfl

@[simp] theorem appendTicket_calls (k : Ticket) (s : State) : (appendTicket k s).calls = s.calls := rfl
@[simp] theorem appendTicket_board (k : Ticket) (s : State) : (appendTicket k s).board = s.board := rfl
@[simp] theorem appendTicket_clock (k : Ticket) (s : State) : (appendTicket k s).clock = s.clock := rfl
@[simp] theorem appendTicket_fares (k : Ticket) (s : State) : (appendTicket k s).fares = s.fares := rfl
@[simp] theorem appendTicket_platform (k : Ticket) (s : State) : (appendTicket k s).platform = s.platform := rfl
@[simp] theorem appendTicket_screen (k : Ticket) (s : State) : (appendTicket k s).screen = s.screen := rfl
@[simp] theorem appendTicket_vport (k : Ticket) (s : State) : (appendTicket k s).vport = s.vport := rfl
@[simp] theorem appendTicket_sport (k : Ticket) (s : State) : (appendTicket k s).sport = s.sport := rfl
@[simp] theorem appendTicket_wakes (k : Ticket) (s : State) : (appendTicket k s).wakes = s.wakes := rfl
@[simp] theorem appendTicket_pending (k : Ticket) (s : State) : (appendTicket k s).pending = s.pending := rfl

@[simp] theorem startSlew_calls (n : Nat) (s : State) : (startSlew n s).calls = s.calls := rfl
@[simp] theorem startSlew_board (n : Nat) (s : State) : (startSlew n s).board = s.board := rfl
@[simp] theorem startSlew_fares (n : Nat) (s : State) : (startSlew n s).fares = s.fares := rfl
@[simp] theorem startSlew_issue (n : Nat) (s : State) : (startSlew n s).issue = s.issue := rfl
@[simp] theorem startSlew_line (n : Nat) (s : State) : (startSlew n s).line = s.line := rfl
@[simp] theorem startSlew_platform (n : Nat) (s : State) : (startSlew n s).platform = s.platform := rfl
@[simp] theorem startSlew_screen (n : Nat) (s : State) : (startSlew n s).screen = s.screen := rfl
@[simp] theorem startSlew_vport (n : Nat) (s : State) : (startSlew n s).vport = s.vport := rfl
@[simp] theorem startSlew_sport (n : Nat) (s : State) : (startSlew n s).sport = s.sport := rfl
@[simp] theorem startSlew_wakes (n : Nat) (s : State) : (startSlew n s).wakes = s.wakes := rfl
@[simp] theorem startSlew_pending (n : Nat) (s : State) : (startSlew n s).pending = s.pending := rfl

@[simp] theorem adoptDay_calls (b : BeaconFields) (k : TimeOfDay) (s : State) : (adoptDay b k s).calls = s.calls := rfl
@[simp] theorem adoptDay_board (b : BeaconFields) (k : TimeOfDay) (s : State) : (adoptDay b k s).board = s.board := rfl
@[simp] theorem adoptDay_fares (b : BeaconFields) (k : TimeOfDay) (s : State) : (adoptDay b k s).fares = s.fares := rfl
@[simp] theorem adoptDay_issue (b : BeaconFields) (k : TimeOfDay) (s : State) : (adoptDay b k s).issue = s.issue := rfl
@[simp] theorem adoptDay_line (b : BeaconFields) (k : TimeOfDay) (s : State) : (adoptDay b k s).line = s.line := rfl
@[simp] theorem adoptDay_platform (b : BeaconFields) (k : TimeOfDay) (s : State) : (adoptDay b k s).platform = s.platform := rfl
@[simp] theorem adoptDay_screen (b : BeaconFields) (k : TimeOfDay) (s : State) : (adoptDay b k s).screen = s.screen := rfl
@[simp] theorem adoptDay_vport (b : BeaconFields) (k : TimeOfDay) (s : State) : (adoptDay b k s).vport = s.vport := rfl
@[simp] theorem adoptDay_sport (b : BeaconFields) (k : TimeOfDay) (s : State) : (adoptDay b k s).sport = s.sport := rfl
@[simp] theorem adoptDay_wakes (b : BeaconFields) (k : TimeOfDay) (s : State) : (adoptDay b k s).wakes = s.wakes := rfl
@[simp] theorem adoptDay_pending (b : BeaconFields) (k : TimeOfDay) (s : State) : (adoptDay b k s).pending = s.pending := rfl

@[simp] theorem loadNext_board (r : Scheduled) (s : State) : (loadNext r s).board = s.board := rfl
@[simp] theorem loadNext_clock (r : Scheduled) (s : State) : (loadNext r s).clock = s.clock := rfl
@[simp] theorem loadNext_fares (r : Scheduled) (s : State) : (loadNext r s).fares = s.fares := rfl
@[simp] theorem loadNext_issue (r : Scheduled) (s : State) : (loadNext r s).issue = s.issue := rfl
@[simp] theorem loadNext_line (r : Scheduled) (s : State) : (loadNext r s).line = s.line := rfl
@[simp] theorem loadNext_platform (r : Scheduled) (s : State) : (loadNext r s).platform = s.platform := rfl
@[simp] theorem loadNext_screen (r : Scheduled) (s : State) : (loadNext r s).screen = s.screen := rfl
@[simp] theorem loadNext_vport (r : Scheduled) (s : State) : (loadNext r s).vport = s.vport := rfl
@[simp] theorem loadNext_sport (r : Scheduled) (s : State) : (loadNext r s).sport = s.sport := rfl
@[simp] theorem loadNext_wakes (r : Scheduled) (s : State) : (loadNext r s).wakes = s.wakes := rfl
@[simp] theorem loadNext_pending (r : Scheduled) (s : State) : (loadNext r s).pending = s.pending := rfl

@[simp] theorem firstBoard_calls (s : State) : (firstBoard s).calls = s.calls := rfl
@[simp] theorem firstBoard_clock (s : State) : (firstBoard s).clock = s.clock := rfl
@[simp] theorem firstBoard_fares (s : State) : (firstBoard s).fares = s.fares := rfl
@[simp] theorem firstBoard_issue (s : State) : (firstBoard s).issue = s.issue := rfl
@[simp] theorem firstBoard_line (s : State) : (firstBoard s).line = s.line := rfl
@[simp] theorem firstBoard_platform (s : State) : (firstBoard s).platform = s.platform := rfl
@[simp] theorem firstBoard_screen (s : State) : (firstBoard s).screen = s.screen := rfl
@[simp] theorem firstBoard_vport (s : State) : (firstBoard s).vport = s.vport := rfl
@[simp] theorem firstBoard_sport (s : State) : (firstBoard s).sport = s.sport := rfl
@[simp] theorem firstBoard_wakes (s : State) : (firstBoard s).wakes = s.wakes := rfl
@[simp] theorem firstBoard_pending (s : State) : (firstBoard s).pending = s.pending := rfl

@[simp] theorem enqueue_calls (k : AccessClass) (i : Item) (s : State) : (enqueue k i s).calls = s.calls := rfl
@[simp] theorem enqueue_board (k : AccessClass) (i : Item) (s : State) : (enqueue k i s).board = s.board := rfl
@[simp] theorem enqueue_clock (k : AccessClass) (i : Item) (s : State) : (enqueue k i s).clock = s.clock := rfl
@[simp] theorem enqueue_fares (k : AccessClass) (i : Item) (s : State) : (enqueue k i s).fares = s.fares := rfl
@[simp] theorem enqueue_issue (k : AccessClass) (i : Item) (s : State) : (enqueue k i s).issue = s.issue := rfl
@[simp] theorem enqueue_platform (k : AccessClass) (i : Item) (s : State) : (enqueue k i s).platform = s.platform := rfl
@[simp] theorem enqueue_screen (k : AccessClass) (i : Item) (s : State) : (enqueue k i s).screen = s.screen := rfl
@[simp] theorem enqueue_vport (k : AccessClass) (i : Item) (s : State) : (enqueue k i s).vport = s.vport := rfl
@[simp] theorem enqueue_sport (k : AccessClass) (i : Item) (s : State) : (enqueue k i s).sport = s.sport := rfl
@[simp] theorem enqueue_wakes (k : AccessClass) (i : Item) (s : State) : (enqueue k i s).wakes = s.wakes := rfl
@[simp] theorem enqueue_pending (k : AccessClass) (i : Item) (s : State) : (enqueue k i s).pending = s.pending := rfl

@[simp] theorem offerObservation_calls (k : ObservationKind) (n t : Option Nat) (s : State) : (offerObservation k n t s).calls = s.calls := rfl
@[simp] theorem offerObservation_board (k : ObservationKind) (n t : Option Nat) (s : State) : (offerObservation k n t s).board = s.board := rfl
@[simp] theorem offerObservation_clock (k : ObservationKind) (n t : Option Nat) (s : State) : (offerObservation k n t s).clock = s.clock := rfl
@[simp] theorem offerObservation_fares (k : ObservationKind) (n t : Option Nat) (s : State) : (offerObservation k n t s).fares = s.fares := rfl
@[simp] theorem offerObservation_issue (k : ObservationKind) (n t : Option Nat) (s : State) : (offerObservation k n t s).issue = s.issue := rfl
@[simp] theorem offerObservation_platform (k : ObservationKind) (n t : Option Nat) (s : State) : (offerObservation k n t s).platform = s.platform := rfl
@[simp] theorem offerObservation_screen (k : ObservationKind) (n t : Option Nat) (s : State) : (offerObservation k n t s).screen = s.screen := rfl
@[simp] theorem offerObservation_vport (k : ObservationKind) (n t : Option Nat) (s : State) : (offerObservation k n t s).vport = s.vport := rfl
@[simp] theorem offerObservation_sport (k : ObservationKind) (n t : Option Nat) (s : State) : (offerObservation k n t s).sport = s.sport := rfl
@[simp] theorem offerObservation_wakes (k : ObservationKind) (n t : Option Nat) (s : State) : (offerObservation k n t s).wakes = s.wakes := rfl
@[simp] theorem offerObservation_pending (k : ObservationKind) (n t : Option Nat) (s : State) : (offerObservation k n t s).pending = s.pending := rfl

@[simp] theorem offerHoldGranted_calls (s : State) : (offerHoldGranted s).calls = s.calls := rfl
@[simp] theorem offerHoldGranted_board (s : State) : (offerHoldGranted s).board = s.board := rfl
@[simp] theorem offerHoldGranted_clock (s : State) : (offerHoldGranted s).clock = s.clock := rfl
@[simp] theorem offerHoldGranted_fares (s : State) : (offerHoldGranted s).fares = s.fares := rfl
@[simp] theorem offerHoldGranted_issue (s : State) : (offerHoldGranted s).issue = s.issue := rfl
@[simp] theorem offerHoldGranted_platform (s : State) : (offerHoldGranted s).platform = s.platform := rfl
@[simp] theorem offerHoldGranted_screen (s : State) : (offerHoldGranted s).screen = s.screen := rfl
@[simp] theorem offerHoldGranted_vport (s : State) : (offerHoldGranted s).vport = s.vport := rfl
@[simp] theorem offerHoldGranted_sport (s : State) : (offerHoldGranted s).sport = s.sport := rfl
@[simp] theorem offerHoldGranted_wakes (s : State) : (offerHoldGranted s).wakes = s.wakes := rfl
@[simp] theorem offerHoldGranted_pending (s : State) : (offerHoldGranted s).pending = s.pending := rfl

@[simp] theorem offerHoldEnded_calls (r : EndReason) (s : State) : (offerHoldEnded r s).calls = s.calls := rfl
@[simp] theorem offerHoldEnded_board (r : EndReason) (s : State) : (offerHoldEnded r s).board = s.board := rfl
@[simp] theorem offerHoldEnded_clock (r : EndReason) (s : State) : (offerHoldEnded r s).clock = s.clock := rfl
@[simp] theorem offerHoldEnded_fares (r : EndReason) (s : State) : (offerHoldEnded r s).fares = s.fares := rfl
@[simp] theorem offerHoldEnded_issue (r : EndReason) (s : State) : (offerHoldEnded r s).issue = s.issue := rfl
@[simp] theorem offerHoldEnded_platform (r : EndReason) (s : State) : (offerHoldEnded r s).platform = s.platform := rfl
@[simp] theorem offerHoldEnded_screen (r : EndReason) (s : State) : (offerHoldEnded r s).screen = s.screen := rfl
@[simp] theorem offerHoldEnded_vport (r : EndReason) (s : State) : (offerHoldEnded r s).vport = s.vport := rfl
@[simp] theorem offerHoldEnded_sport (r : EndReason) (s : State) : (offerHoldEnded r s).sport = s.sport := rfl
@[simp] theorem offerHoldEnded_wakes (r : EndReason) (s : State) : (offerHoldEnded r s).wakes = s.wakes := rfl
@[simp] theorem offerHoldEnded_pending (r : EndReason) (s : State) : (offerHoldEnded r s).pending = s.pending := rfl

@[simp] theorem offerReply_calls (k : LoadKind) (o : LoadOutcome) (r : Option Nat) (s : State) : (offerReply k o r s).calls = s.calls := rfl
@[simp] theorem offerReply_board (k : LoadKind) (o : LoadOutcome) (r : Option Nat) (s : State) : (offerReply k o r s).board = s.board := rfl
@[simp] theorem offerReply_clock (k : LoadKind) (o : LoadOutcome) (r : Option Nat) (s : State) : (offerReply k o r s).clock = s.clock := rfl
@[simp] theorem offerReply_fares (k : LoadKind) (o : LoadOutcome) (r : Option Nat) (s : State) : (offerReply k o r s).fares = s.fares := rfl
@[simp] theorem offerReply_issue (k : LoadKind) (o : LoadOutcome) (r : Option Nat) (s : State) : (offerReply k o r s).issue = s.issue := rfl
@[simp] theorem offerReply_platform (k : LoadKind) (o : LoadOutcome) (r : Option Nat) (s : State) : (offerReply k o r s).platform = s.platform := rfl
@[simp] theorem offerReply_screen (k : LoadKind) (o : LoadOutcome) (r : Option Nat) (s : State) : (offerReply k o r s).screen = s.screen := rfl
@[simp] theorem offerReply_vport (k : LoadKind) (o : LoadOutcome) (r : Option Nat) (s : State) : (offerReply k o r s).vport = s.vport := rfl
@[simp] theorem offerReply_sport (k : LoadKind) (o : LoadOutcome) (r : Option Nat) (s : State) : (offerReply k o r s).sport = s.sport := rfl
@[simp] theorem offerReply_wakes (k : LoadKind) (o : LoadOutcome) (r : Option Nat) (s : State) : (offerReply k o r s).wakes = s.wakes := rfl
@[simp] theorem offerReply_pending (k : LoadKind) (o : LoadOutcome) (r : Option Nat) (s : State) : (offerReply k o r s).pending = s.pending := rfl

@[simp] theorem statusCause_calls (s : State) : (statusCause s).calls = s.calls := rfl
@[simp] theorem statusCause_board (s : State) : (statusCause s).board = s.board := rfl
@[simp] theorem statusCause_clock (s : State) : (statusCause s).clock = s.clock := rfl
@[simp] theorem statusCause_fares (s : State) : (statusCause s).fares = s.fares := rfl
@[simp] theorem statusCause_issue (s : State) : (statusCause s).issue = s.issue := rfl
@[simp] theorem statusCause_platform (s : State) : (statusCause s).platform = s.platform := rfl
@[simp] theorem statusCause_screen (s : State) : (statusCause s).screen = s.screen := rfl
@[simp] theorem statusCause_vport (s : State) : (statusCause s).vport = s.vport := rfl
@[simp] theorem statusCause_sport (s : State) : (statusCause s).sport = s.sport := rfl
@[simp] theorem statusCause_wakes (s : State) : (statusCause s).wakes = s.wakes := rfl
@[simp] theorem statusCause_pending (s : State) : (statusCause s).pending = s.pending := rfl

@[simp] theorem reportRearm_calls (s : State) : (reportRearm s).calls = s.calls := rfl
@[simp] theorem reportRearm_board (s : State) : (reportRearm s).board = s.board := rfl
@[simp] theorem reportRearm_clock (s : State) : (reportRearm s).clock = s.clock := rfl
@[simp] theorem reportRearm_fares (s : State) : (reportRearm s).fares = s.fares := rfl
@[simp] theorem reportRearm_issue (s : State) : (reportRearm s).issue = s.issue := rfl
@[simp] theorem reportRearm_platform (s : State) : (reportRearm s).platform = s.platform := rfl
@[simp] theorem reportRearm_screen (s : State) : (reportRearm s).screen = s.screen := rfl
@[simp] theorem reportRearm_vport (s : State) : (reportRearm s).vport = s.vport := rfl
@[simp] theorem reportRearm_sport (s : State) : (reportRearm s).sport = s.sport := rfl
@[simp] theorem reportRearm_wakes (s : State) : (reportRearm s).wakes = s.wakes := rfl
@[simp] theorem reportRearm_pending (s : State) : (reportRearm s).pending = s.pending := rfl

@[simp] theorem offerStops_calls (s : State) : (offerStops s).calls = s.calls := rfl
@[simp] theorem offerStops_board (s : State) : (offerStops s).board = s.board := rfl
@[simp] theorem offerStops_clock (s : State) : (offerStops s).clock = s.clock := rfl
@[simp] theorem offerStops_fares (s : State) : (offerStops s).fares = s.fares := rfl
@[simp] theorem offerStops_issue (s : State) : (offerStops s).issue = s.issue := rfl
@[simp] theorem offerStops_platform (s : State) : (offerStops s).platform = s.platform := rfl
@[simp] theorem offerStops_screen (s : State) : (offerStops s).screen = s.screen := rfl
@[simp] theorem offerStops_vport (s : State) : (offerStops s).vport = s.vport := rfl
@[simp] theorem offerStops_sport (s : State) : (offerStops s).sport = s.sport := rfl
@[simp] theorem offerStops_wakes (s : State) : (offerStops s).wakes = s.wakes := rfl
@[simp] theorem offerStops_pending (s : State) : (offerStops s).pending = s.pending := rfl

@[simp] theorem dispute_calls (s : State) : (dispute s).calls = s.calls := rfl
@[simp] theorem dispute_board (s : State) : (dispute s).board = s.board := rfl
@[simp] theorem dispute_fares (s : State) : (dispute s).fares = s.fares := rfl
@[simp] theorem dispute_issue (s : State) : (dispute s).issue = s.issue := rfl
@[simp] theorem dispute_platform (s : State) : (dispute s).platform = s.platform := rfl
@[simp] theorem dispute_screen (s : State) : (dispute s).screen = s.screen := rfl
@[simp] theorem dispute_vport (s : State) : (dispute s).vport = s.vport := rfl
@[simp] theorem dispute_sport (s : State) : (dispute s).sport = s.sport := rfl
@[simp] theorem dispute_wakes (s : State) : (dispute s).wakes = s.wakes := rfl
@[simp] theorem dispute_pending (s : State) : (dispute s).pending = s.pending := rfl

@[simp] theorem statusSent_calls (f : TxFrame) (s : State) : (statusSent f s).calls = s.calls := rfl
@[simp] theorem statusSent_board (f : TxFrame) (s : State) : (statusSent f s).board = s.board := rfl
@[simp] theorem statusSent_clock (f : TxFrame) (s : State) : (statusSent f s).clock = s.clock := rfl
@[simp] theorem statusSent_fares (f : TxFrame) (s : State) : (statusSent f s).fares = s.fares := rfl
@[simp] theorem statusSent_issue (f : TxFrame) (s : State) : (statusSent f s).issue = s.issue := rfl
@[simp] theorem statusSent_platform (f : TxFrame) (s : State) : (statusSent f s).platform = s.platform := rfl
@[simp] theorem statusSent_screen (f : TxFrame) (s : State) : (statusSent f s).screen = s.screen := rfl
@[simp] theorem statusSent_vport (f : TxFrame) (s : State) : (statusSent f s).vport = s.vport := rfl
@[simp] theorem statusSent_sport (f : TxFrame) (s : State) : (statusSent f s).sport = s.sport := rfl
@[simp] theorem statusSent_wakes (f : TxFrame) (s : State) : (statusSent f s).wakes = s.wakes := rfl
@[simp] theorem statusSent_pending (f : TxFrame) (s : State) : (statusSent f s).pending = s.pending := rfl

/-! ## What the operations set -/

@[simp] theorem State.mapCall_active (n : Nat) (f : Call → Call) (s : State) :
    (s.mapCall n f).calls.active = s.calls.active.map fun c => if c.service = n then f c else c := rfl
@[simp] theorem State.mapActive_active (f : Call → Call) (s : State) :
    (s.mapActive f).calls.active = s.calls.active.map f := rfl
@[simp] theorem State.mapActive_next (f : Call → Call) (s : State) :
    (s.mapActive f).calls.next = s.calls.next := rfl
@[simp] theorem State.mapActive_nextState (f : Call → Call) (s : State) :
    (s.mapActive f).calls.nextState = s.calls.nextState := rfl
@[simp] theorem latchV_vport (n : VNotice) (s : State) : (latchV n s).vport = s.vport.latch n.bit := rfl
@[simp] theorem latchS_sport (n : SNotice) (s : State) : (latchS n s).sport = s.sport.latch n.bit := rfl
@[simp] theorem enqueue_line (k : AccessClass) (i : Item) (s : State) :
    (enqueue k i s).line = s.line.enqueue k i := rfl
@[simp] theorem offerObservation_line (k : ObservationKind) (n t : Option Nat) (s : State) :
    (offerObservation k n t s).line = s.line.enqueue s.line.classMap.observation (.observation k n t) := rfl
@[simp] theorem offerHoldGranted_line (s : State) :
    (offerHoldGranted s).line = s.line.enqueue s.line.classMap.hold .holdGranted := rfl
@[simp] theorem offerHoldEnded_line (r : EndReason) (s : State) :
    (offerHoldEnded r s).line = s.line.enqueue s.line.classMap.hold (.holdEnded r) := rfl
@[simp] theorem offerReply_line (k : LoadKind) (o : LoadOutcome) (r : Option Nat) (s : State) :
    (offerReply k o r s).line = s.line.enqueue s.line.classMap.loadReply (.loadReply k o r) := rfl
@[simp] theorem removeStop_line (n : Nat) (s : State) : (removeStop n s).line = s.line.removeStop n := rfl
@[simp] theorem statusCause_line (s : State) : (statusCause s).line = s.line.statusCause := rfl
@[simp] theorem offerStops_line (s : State) : (offerStops s).line = Line.offerAll (waitingCalls s) s.line := rfl
@[simp] theorem statusSent_line (f : TxFrame) (s : State) : (statusSent f s).line = s.line.statusSent f := rfl
@[simp] theorem setLink_line (k : LinkState) (s : State) : (setLink k s).line = s.line.enter k := rfl
@[simp] theorem setLink_vport (k : LinkState) (s : State) :
    (setLink k s).vport = s.vport.latch VNotice.linkState.bit := rfl
@[simp] theorem setHold_issue (h : Hold) (l : Timer) (s : State) :
    (setHold h l s).issue = { s.issue with hold := h, limitTimer := l } := rfl
@[simp] theorem setHold_vport (h : Hold) (l : Timer) (s : State) :
    (setHold h l s).vport = s.vport.latch VNotice.holdChanged.bit := rfl
@[simp] theorem portOf_vending (s : State) : portOf s .vending = s.vport := rfl
@[simp] theorem portOf_signage (s : State) : portOf s .signage = s.sport := rfl
@[simp] theorem setPort_vending (s : State) (p : PortState) : setPort s .vending p = { s with vport := p } := rfl
@[simp] theorem setPort_signage (s : State) (p : PortState) : setPort s .signage p = { s with sport := p } := rfl

end Sys2Proof.Machine
end

