-- ==== Sys2Proof/Laws/LineFrames.lean ====
section
/-! SUPPORT. Frames of the operations on the line interface: each of its fields an operation leaves alone. -/

namespace Sys2Proof.Machine

@[simp] theorem Line.enqueue_link (k : AccessClass) (i : Item) (l : Line) : (l.enqueue k i).link = l.link := rfl
@[simp] theorem Line.enqueue_address (k : AccessClass) (i : Item) (l : Line) : (l.enqueue k i).address = l.address := rfl
@[simp] theorem Line.enqueue_idleCount (k : AccessClass) (i : Item) (l : Line) : (l.enqueue k i).idleCount = l.idleCount := rfl
@[simp] theorem Line.enqueue_up (k : AccessClass) (i : Item) (l : Line) : (l.enqueue k i).up = l.up := rfl
@[simp] theorem Line.enqueue_urgentThreshold (k : AccessClass) (i : Item) (l : Line) : (l.enqueue k i).urgentThreshold = l.urgentThreshold := rfl
@[simp] theorem Line.enqueue_routineThreshold (k : AccessClass) (i : Item) (l : Line) : (l.enqueue k i).routineThreshold = l.routineThreshold := rfl
@[simp] theorem Line.enqueue_turn (k : AccessClass) (i : Item) (l : Line) : (l.enqueue k i).turn = l.turn := rfl
@[simp] theorem Line.enqueue_faultRun (k : AccessClass) (i : Item) (l : Line) : (l.enqueue k i).faultRun = l.faultRun := rfl
@[simp] theorem Line.enqueue_tx (k : AccessClass) (i : Item) (l : Line) : (l.enqueue k i).tx = l.tx := rfl
@[simp] theorem Line.enqueue_rx (k : AccessClass) (i : Item) (l : Line) : (l.enqueue k i).rx = l.rx := rfl
@[simp] theorem Line.enqueue_resume (k : AccessClass) (i : Item) (l : Line) : (l.enqueue k i).resume = l.resume := rfl
@[simp] theorem Line.enqueue_joinPending (k : AccessClass) (i : Item) (l : Line) : (l.enqueue k i).joinPending = l.joinPending := rfl
@[simp] theorem Line.enqueue_joinTimer (k : AccessClass) (i : Item) (l : Line) : (l.enqueue k i).joinTimer = l.joinTimer := rfl
@[simp] theorem Line.enqueue_admissionTimer (k : AccessClass) (i : Item) (l : Line) : (l.enqueue k i).admissionTimer = l.admissionTimer := rfl
@[simp] theorem Line.enqueue_silenceTimer (k : AccessClass) (i : Item) (l : Line) : (l.enqueue k i).silenceTimer = l.silenceTimer := rfl
@[simp] theorem Line.enqueue_lostTimer (k : AccessClass) (i : Item) (l : Line) : (l.enqueue k i).lostTimer = l.lostTimer := rfl
@[simp] theorem Line.enqueue_badFrames (k : AccessClass) (i : Item) (l : Line) : (l.enqueue k i).badFrames = l.badFrames := rfl
@[simp] theorem Line.enqueue_contentions (k : AccessClass) (i : Item) (l : Line) : (l.enqueue k i).contentions = l.contentions := rfl
@[simp] theorem Line.enqueue_faults (k : AccessClass) (i : Item) (l : Line) : (l.enqueue k i).faults = l.faults := rfl
@[simp] theorem Line.enqueue_classMap (k : AccessClass) (i : Item) (l : Line) : (l.enqueue k i).classMap = l.classMap := rfl
@[simp] theorem Line.enqueue_cursor (k : AccessClass) (i : Item) (l : Line) : (l.enqueue k i).cursor = l.cursor := rfl
@[simp] theorem Line.enqueue_highestSent (k : AccessClass) (i : Item) (l : Line) : (l.enqueue k i).highestSent = l.highestSent := rfl
@[simp] theorem Line.enqueue_saleAckTimer (k : AccessClass) (i : Item) (l : Line) : (l.enqueue k i).saleAckTimer = l.saleAckTimer := rfl
@[simp] theorem Line.enqueue_params (k : AccessClass) (i : Item) (l : Line) : (l.enqueue k i).params = l.params := rfl
@[simp] theorem Line.enqueue_condition (k : AccessClass) (i : Item) (l : Line) : (l.enqueue k i).condition = l.condition := rfl
@[simp] theorem Line.enqueue_textCode (k : AccessClass) (i : Item) (l : Line) : (l.enqueue k i).textCode = l.textCode := rfl
@[simp] theorem Line.enqueue_tableReused (k : AccessClass) (i : Item) (l : Line) : (l.enqueue k i).tableReused = l.tableReused := rfl
@[simp] theorem Line.enqueue_statusOwed (k : AccessClass) (i : Item) (l : Line) : (l.enqueue k i).statusOwed = l.statusOwed := rfl
@[simp] theorem Line.enqueue_statusTimer (k : AccessClass) (i : Item) (l : Line) : (l.enqueue k i).statusTimer = l.statusTimer := rfl

@[simp] theorem Line.removeStop_link (n : Nat) (l : Line) : (l.removeStop n).link = l.link := rfl
@[simp] theorem Line.removeStop_address (n : Nat) (l : Line) : (l.removeStop n).address = l.address := rfl
@[simp] theorem Line.removeStop_idleCount (n : Nat) (l : Line) : (l.removeStop n).idleCount = l.idleCount := rfl
@[simp] theorem Line.removeStop_up (n : Nat) (l : Line) : (l.removeStop n).up = l.up := rfl
@[simp] theorem Line.removeStop_urgentThreshold (n : Nat) (l : Line) : (l.removeStop n).urgentThreshold = l.urgentThreshold := rfl
@[simp] theorem Line.removeStop_routineThreshold (n : Nat) (l : Line) : (l.removeStop n).routineThreshold = l.routineThreshold := rfl
@[simp] theorem Line.removeStop_turn (n : Nat) (l : Line) : (l.removeStop n).turn = l.turn := rfl
@[simp] theorem Line.removeStop_faultRun (n : Nat) (l : Line) : (l.removeStop n).faultRun = l.faultRun := rfl
@[simp] theorem Line.removeStop_rx (n : Nat) (l : Line) : (l.removeStop n).rx = l.rx := rfl
@[simp] theorem Line.removeStop_resume (n : Nat) (l : Line) : (l.removeStop n).resume = l.resume := rfl
@[simp] theorem Line.removeStop_joinPending (n : Nat) (l : Line) : (l.removeStop n).joinPending = l.joinPending := rfl
@[simp] theorem Line.removeStop_joinTimer (n : Nat) (l : Line) : (l.removeStop n).joinTimer = l.joinTimer := rfl
@[simp] theorem Line.removeStop_admissionTimer (n : Nat) (l : Line) : (l.removeStop n).admissionTimer = l.admissionTimer := rfl
@[simp] theorem Line.removeStop_silenceTimer (n : Nat) (l : Line) : (l.removeStop n).silenceTimer = l.silenceTimer := rfl
@[simp] theorem Line.removeStop_lostTimer (n : Nat) (l : Line) : (l.removeStop n).lostTimer = l.lostTimer := rfl
@[simp] theorem Line.removeStop_badFrames (n : Nat) (l : Line) : (l.removeStop n).badFrames = l.badFrames := rfl
@[simp] theorem Line.removeStop_contentions (n : Nat) (l : Line) : (l.removeStop n).contentions = l.contentions := rfl
@[simp] theorem Line.removeStop_faults (n : Nat) (l : Line) : (l.removeStop n).faults = l.faults := rfl
@[simp] theorem Line.removeStop_routine (n : Nat) (l : Line) : (l.removeStop n).routine = l.routine := rfl
@[simp] theorem Line.removeStop_classMap (n : Nat) (l : Line) : (l.removeStop n).classMap = l.classMap := rfl
@[simp] theorem Line.removeStop_cursor (n : Nat) (l : Line) : (l.removeStop n).cursor = l.cursor := rfl
@[simp] theorem Line.removeStop_highestSent (n : Nat) (l : Line) : (l.removeStop n).highestSent = l.highestSent := rfl
@[simp] theorem Line.removeStop_saleAckTimer (n : Nat) (l : Line) : (l.removeStop n).saleAckTimer = l.saleAckTimer := rfl
@[simp] theorem Line.removeStop_params (n : Nat) (l : Line) : (l.removeStop n).params = l.params := rfl
@[simp] theorem Line.removeStop_condition (n : Nat) (l : Line) : (l.removeStop n).condition = l.condition := rfl
@[simp] theorem Line.removeStop_textCode (n : Nat) (l : Line) : (l.removeStop n).textCode = l.textCode := rfl
@[simp] theorem Line.removeStop_tableReused (n : Nat) (l : Line) : (l.removeStop n).tableReused = l.tableReused := rfl
@[simp] theorem Line.removeStop_statusOwed (n : Nat) (l : Line) : (l.removeStop n).statusOwed = l.statusOwed := rfl
@[simp] theorem Line.removeStop_statusTimer (n : Nat) (l : Line) : (l.removeStop n).statusTimer = l.statusTimer := rfl
@[simp] theorem Line.removeStop_discards (n : Nat) (l : Line) : (l.removeStop n).discards = l.discards := rfl

@[simp] theorem Line.statusCause_link (l : Line) : (l.statusCause).link = l.link := by
  unfold Line.statusCause Line.offerStatus; split <;> [rfl; (split <;> rfl)]
@[simp] theorem Line.statusCause_address (l : Line) : (l.statusCause).address = l.address := by
  unfold Line.statusCause Line.offerStatus; split <;> [rfl; (split <;> rfl)]
@[simp] theorem Line.statusCause_idleCount (l : Line) : (l.statusCause).idleCount = l.idleCount := by
  unfold Line.statusCause Line.offerStatus; split <;> [rfl; (split <;> rfl)]
@[simp] theorem Line.statusCause_up (l : Line) : (l.statusCause).up = l.up := by
  unfold Line.statusCause Line.offerStatus; split <;> [rfl; (split <;> rfl)]
@[simp] theorem Line.statusCause_urgentThreshold (l : Line) : (l.statusCause).urgentThreshold = l.urgentThreshold := by
  unfold Line.statusCause Line.offerStatus; split <;> [rfl; (split <;> rfl)]
@[simp] theorem Line.statusCause_routineThreshold (l : Line) : (l.statusCause).routineThreshold = l.routineThreshold := by
  unfold Line.statusCause Line.offerStatus; split <;> [rfl; (split <;> rfl)]
@[simp] theorem Line.statusCause_turn (l : Line) : (l.statusCause).turn = l.turn := by
  unfold Line.statusCause Line.offerStatus; split <;> [rfl; (split <;> rfl)]
@[simp] theorem Line.statusCause_faultRun (l : Line) : (l.statusCause).faultRun = l.faultRun := by
  unfold Line.statusCause Line.offerStatus; split <;> [rfl; (split <;> rfl)]
@[simp] theorem Line.statusCause_tx (l : Line) : (l.statusCause).tx = l.tx := by
  unfold Line.statusCause Line.offerStatus; split <;> [rfl; (split <;> rfl)]
@[simp] theorem Line.statusCause_rx (l : Line) : (l.statusCause).rx = l.rx := by
  unfold Line.statusCause Line.offerStatus; split <;> [rfl; (split <;> rfl)]
@[simp] theorem Line.statusCause_resume (l : Line) : (l.statusCause).resume = l.resume := by
  unfold Line.statusCause Line.offerStatus; split <;> [rfl; (split <;> rfl)]
@[simp] theorem Line.statusCause_joinPending (l : Line) : (l.statusCause).joinPending = l.joinPending := by
  unfold Line.statusCause Line.offerStatus; split <;> [rfl; (split <;> rfl)]
@[simp] theorem Line.statusCause_joinTimer (l : Line) : (l.statusCause).joinTimer = l.joinTimer := by
  unfold Line.statusCause Line.offerStatus; split <;> [rfl; (split <;> rfl)]
@[simp] theorem Line.statusCause_admissionTimer (l : Line) : (l.statusCause).admissionTimer = l.admissionTimer := by
  unfold Line.statusCause Line.offerStatus; split <;> [rfl; (split <;> rfl)]
@[simp] theorem Line.statusCause_silenceTimer (l : Line) : (l.statusCause).silenceTimer = l.silenceTimer := by
  unfold Line.statusCause Line.offerStatus; split <;> [rfl; (split <;> rfl)]
@[simp] theorem Line.statusCause_lostTimer (l : Line) : (l.statusCause).lostTimer = l.lostTimer := by
  unfold Line.statusCause Line.offerStatus; split <;> [rfl; (split <;> rfl)]
@[simp] theorem Line.statusCause_badFrames (l : Line) : (l.statusCause).badFrames = l.badFrames := by
  unfold Line.statusCause Line.offerStatus; split <;> [rfl; (split <;> rfl)]
@[simp] theorem Line.statusCause_contentions (l : Line) : (l.statusCause).contentions = l.contentions := by
  unfold Line.statusCause Line.offerStatus; split <;> [rfl; (split <;> rfl)]
@[simp] theorem Line.statusCause_faults (l : Line) : (l.statusCause).faults = l.faults := by
  unfold Line.statusCause Line.offerStatus; split <;> [rfl; (split <;> rfl)]
@[simp] theorem Line.statusCause_classMap (l : Line) : (l.statusCause).classMap = l.classMap := by
  unfold Line.statusCause Line.offerStatus; split <;> [rfl; (split <;> rfl)]
@[simp] theorem Line.statusCause_cursor (l : Line) : (l.statusCause).cursor = l.cursor := by
  unfold Line.statusCause Line.offerStatus; split <;> [rfl; (split <;> rfl)]
@[simp] theorem Line.statusCause_highestSent (l : Line) : (l.statusCause).highestSent = l.highestSent := by
  unfold Line.statusCause Line.offerStatus; split <;> [rfl; (split <;> rfl)]
@[simp] theorem Line.statusCause_saleAckTimer (l : Line) : (l.statusCause).saleAckTimer = l.saleAckTimer := by
  unfold Line.statusCause Line.offerStatus; split <;> [rfl; (split <;> rfl)]
@[simp] theorem Line.statusCause_params (l : Line) : (l.statusCause).params = l.params := by
  unfold Line.statusCause Line.offerStatus; split <;> [rfl; (split <;> rfl)]
@[simp] theorem Line.statusCause_condition (l : Line) : (l.statusCause).condition = l.condition := by
  unfold Line.statusCause Line.offerStatus; split <;> [rfl; (split <;> rfl)]
@[simp] theorem Line.statusCause_textCode (l : Line) : (l.statusCause).textCode = l.textCode := by
  unfold Line.statusCause Line.offerStatus; split <;> [rfl; (split <;> rfl)]
@[simp] theorem Line.statusCause_tableReused (l : Line) : (l.statusCause).tableReused = l.tableReused := by
  unfold Line.statusCause Line.offerStatus; split <;> [rfl; (split <;> rfl)]
@[simp] theorem Line.statusCause_statusTimer (l : Line) : (l.statusCause).statusTimer = l.statusTimer := by
  unfold Line.statusCause Line.offerStatus; split <;> [rfl; (split <;> rfl)]

@[simp] theorem Line.enter_address (k : LinkState) (l : Line) : (l.enter k).address = l.address := rfl
@[simp] theorem Line.enter_idleCount (k : LinkState) (l : Line) : (l.enter k).idleCount = l.idleCount := rfl
@[simp] theorem Line.enter_up (k : LinkState) (l : Line) : (l.enter k).up = l.up := rfl
@[simp] theorem Line.enter_turn (k : LinkState) (l : Line) : (l.enter k).turn = l.turn := rfl
@[simp] theorem Line.enter_rx (k : LinkState) (l : Line) : (l.enter k).rx = l.rx := rfl
@[simp] theorem Line.enter_badFrames (k : LinkState) (l : Line) : (l.enter k).badFrames = l.badFrames := rfl
@[simp] theorem Line.enter_contentions (k : LinkState) (l : Line) : (l.enter k).contentions = l.contentions := rfl
@[simp] theorem Line.enter_faults (k : LinkState) (l : Line) : (l.enter k).faults = l.faults := rfl
@[simp] theorem Line.enter_urgent (k : LinkState) (l : Line) : (l.enter k).urgent = l.urgent := rfl
@[simp] theorem Line.enter_routine (k : LinkState) (l : Line) : (l.enter k).routine = l.routine := rfl
@[simp] theorem Line.enter_classMap (k : LinkState) (l : Line) : (l.enter k).classMap = l.classMap := rfl
@[simp] theorem Line.enter_cursor (k : LinkState) (l : Line) : (l.enter k).cursor = l.cursor := rfl
@[simp] theorem Line.enter_highestSent (k : LinkState) (l : Line) : (l.enter k).highestSent = l.highestSent := rfl
@[simp] theorem Line.enter_saleAckTimer (k : LinkState) (l : Line) : (l.enter k).saleAckTimer = l.saleAckTimer := rfl
@[simp] theorem Line.enter_params (k : LinkState) (l : Line) : (l.enter k).params = l.params := rfl
@[simp] theorem Line.enter_condition (k : LinkState) (l : Line) : (l.enter k).condition = l.condition := rfl
@[simp] theorem Line.enter_textCode (k : LinkState) (l : Line) : (l.enter k).textCode = l.textCode := rfl
@[simp] theorem Line.enter_tableReused (k : LinkState) (l : Line) : (l.enter k).tableReused = l.tableReused := rfl
@[simp] theorem Line.enter_discards (k : LinkState) (l : Line) : (l.enter k).discards = l.discards := rfl

theorem Line.offerStop_link {l m : Line} (i : Item) (h : l.offerStop i = some m) : m.link = l.link := by
  unfold Line.offerStop at h; split at h <;> [skip; split at h] <;> cases h <;> rfl
@[simp] theorem Line.offerAll_link (cs : List Call) (l : Line) : (Line.offerAll cs l).link = l.link := by
  induction cs generalizing l with
  | nil => rfl
  | cons c cs ih => unfold Line.offerAll; split <;> [(next m h => rw [ih, Line.offerStop_link _ h]); rfl]
theorem Line.offerStop_address {l m : Line} (i : Item) (h : l.offerStop i = some m) : m.address = l.address := by
  unfold Line.offerStop at h; split at h <;> [skip; split at h] <;> cases h <;> rfl
@[simp] theorem Line.offerAll_address (cs : List Call) (l : Line) : (Line.offerAll cs l).address = l.address := by
  induction cs generalizing l with
  | nil => rfl
  | cons c cs ih => unfold Line.offerAll; split <;> [(next m h => rw [ih, Line.offerStop_address _ h]); rfl]
theorem Line.offerStop_idleCount {l m : Line} (i : Item) (h : l.offerStop i = some m) : m.idleCount = l.idleCount := by
  unfold Line.offerStop at h; split at h <;> [skip; split at h] <;> cases h <;> rfl
theorem Line.offerStop_up {l m : Line} (i : Item) (h : l.offerStop i = some m) : m.up = l.up := by
  unfold Line.offerStop at h; split at h <;> [skip; split at h] <;> cases h <;> rfl
@[simp] theorem Line.offerAll_idleCount (cs : List Call) (l : Line) : (Line.offerAll cs l).idleCount = l.idleCount := by
  induction cs generalizing l with
  | nil => rfl
  | cons c cs ih => unfold Line.offerAll; split <;> [(next m h => rw [ih, Line.offerStop_idleCount _ h]); rfl]
@[simp] theorem Line.offerAll_up (cs : List Call) (l : Line) : (Line.offerAll cs l).up = l.up := by
  induction cs generalizing l with
  | nil => rfl
  | cons c cs ih => unfold Line.offerAll; split <;> [(next m h => rw [ih, Line.offerStop_up _ h]); rfl]
theorem Line.offerStop_urgentThreshold {l m : Line} (i : Item) (h : l.offerStop i = some m) : m.urgentThreshold = l.urgentThreshold := by
  unfold Line.offerStop at h; split at h <;> [skip; split at h] <;> cases h <;> rfl
@[simp] theorem Line.offerAll_urgentThreshold (cs : List Call) (l : Line) : (Line.offerAll cs l).urgentThreshold = l.urgentThreshold := by
  induction cs generalizing l with
  | nil => rfl
  | cons c cs ih => unfold Line.offerAll; split <;> [(next m h => rw [ih, Line.offerStop_urgentThreshold _ h]); rfl]
theorem Line.offerStop_routineThreshold {l m : Line} (i : Item) (h : l.offerStop i = some m) : m.routineThreshold = l.routineThreshold := by
  unfold Line.offerStop at h; split at h <;> [skip; split at h] <;> cases h <;> rfl
@[simp] theorem Line.offerAll_routineThreshold (cs : List Call) (l : Line) : (Line.offerAll cs l).routineThreshold = l.routineThreshold := by
  induction cs generalizing l with
  | nil => rfl
  | cons c cs ih => unfold Line.offerAll; split <;> [(next m h => rw [ih, Line.offerStop_routineThreshold _ h]); rfl]
theorem Line.offerStop_turn {l m : Line} (i : Item) (h : l.offerStop i = some m) : m.turn = l.turn := by
  unfold Line.offerStop at h; split at h <;> [skip; split at h] <;> cases h <;> rfl
@[simp] theorem Line.offerAll_turn (cs : List Call) (l : Line) : (Line.offerAll cs l).turn = l.turn := by
  induction cs generalizing l with
  | nil => rfl
  | cons c cs ih => unfold Line.offerAll; split <;> [(next m h => rw [ih, Line.offerStop_turn _ h]); rfl]
theorem Line.offerStop_faultRun {l m : Line} (i : Item) (h : l.offerStop i = some m) : m.faultRun = l.faultRun := by
  unfold Line.offerStop at h; split at h <;> [skip; split at h] <;> cases h <;> rfl
@[simp] theorem Line.offerAll_faultRun (cs : List Call) (l : Line) : (Line.offerAll cs l).faultRun = l.faultRun := by
  induction cs generalizing l with
  | nil => rfl
  | cons c cs ih => unfold Line.offerAll; split <;> [(next m h => rw [ih, Line.offerStop_faultRun _ h]); rfl]
theorem Line.offerStop_rx {l m : Line} (i : Item) (h : l.offerStop i = some m) : m.rx = l.rx := by
  unfold Line.offerStop at h; split at h <;> [skip; split at h] <;> cases h <;> rfl
@[simp] theorem Line.offerAll_rx (cs : List Call) (l : Line) : (Line.offerAll cs l).rx = l.rx := by
  induction cs generalizing l with
  | nil => rfl
  | cons c cs ih => unfold Line.offerAll; split <;> [(next m h => rw [ih, Line.offerStop_rx _ h]); rfl]
theorem Line.offerStop_resume {l m : Line} (i : Item) (h : l.offerStop i = some m) : m.resume = l.resume := by
  unfold Line.offerStop at h; split at h <;> [skip; split at h] <;> cases h <;> rfl
@[simp] theorem Line.offerAll_resume (cs : List Call) (l : Line) : (Line.offerAll cs l).resume = l.resume := by
  induction cs generalizing l with
  | nil => rfl
  | cons c cs ih => unfold Line.offerAll; split <;> [(next m h => rw [ih, Line.offerStop_resume _ h]); rfl]
theorem Line.offerStop_joinPending {l m : Line} (i : Item) (h : l.offerStop i = some m) : m.joinPending = l.joinPending := by
  unfold Line.offerStop at h; split at h <;> [skip; split at h] <;> cases h <;> rfl
@[simp] theorem Line.offerAll_joinPending (cs : List Call) (l : Line) : (Line.offerAll cs l).joinPending = l.joinPending := by
  induction cs generalizing l with
  | nil => rfl
  | cons c cs ih => unfold Line.offerAll; split <;> [(next m h => rw [ih, Line.offerStop_joinPending _ h]); rfl]
theorem Line.offerStop_joinTimer {l m : Line} (i : Item) (h : l.offerStop i = some m) : m.joinTimer = l.joinTimer := by
  unfold Line.offerStop at h; split at h <;> [skip; split at h] <;> cases h <;> rfl
@[simp] theorem Line.offerAll_joinTimer (cs : List Call) (l : Line) : (Line.offerAll cs l).joinTimer = l.joinTimer := by
  induction cs generalizing l with
  | nil => rfl
  | cons c cs ih => unfold Line.offerAll; split <;> [(next m h => rw [ih, Line.offerStop_joinTimer _ h]); rfl]
theorem Line.offerStop_admissionTimer {l m : Line} (i : Item) (h : l.offerStop i = some m) : m.admissionTimer = l.admissionTimer := by
  unfold Line.offerStop at h; split at h <;> [skip; split at h] <;> cases h <;> rfl
@[simp] theorem Line.offerAll_admissionTimer (cs : List Call) (l : Line) : (Line.offerAll cs l).admissionTimer = l.admissionTimer := by
  induction cs generalizing l with
  | nil => rfl
  | cons c cs ih => unfold Line.offerAll; split <;> [(next m h => rw [ih, Line.offerStop_admissionTimer _ h]); rfl]
theorem Line.offerStop_silenceTimer {l m : Line} (i : Item) (h : l.offerStop i = some m) : m.silenceTimer = l.silenceTimer := by
  unfold Line.offerStop at h; split at h <;> [skip; split at h] <;> cases h <;> rfl
@[simp] theorem Line.offerAll_silenceTimer (cs : List Call) (l : Line) : (Line.offerAll cs l).silenceTimer = l.silenceTimer := by
  induction cs generalizing l with
  | nil => rfl
  | cons c cs ih => unfold Line.offerAll; split <;> [(next m h => rw [ih, Line.offerStop_silenceTimer _ h]); rfl]
theorem Line.offerStop_lostTimer {l m : Line} (i : Item) (h : l.offerStop i = some m) : m.lostTimer = l.lostTimer := by
  unfold Line.offerStop at h; split at h <;> [skip; split at h] <;> cases h <;> rfl
@[simp] theorem Line.offerAll_lostTimer (cs : List Call) (l : Line) : (Line.offerAll cs l).lostTimer = l.lostTimer := by
  induction cs generalizing l with
  | nil => rfl
  | cons c cs ih => unfold Line.offerAll; split <;> [(next m h => rw [ih, Line.offerStop_lostTimer _ h]); rfl]
theorem Line.offerStop_badFrames {l m : Line} (i : Item) (h : l.offerStop i = some m) : m.badFrames = l.badFrames := by
  unfold Line.offerStop at h; split at h <;> [skip; split at h] <;> cases h <;> rfl
@[simp] theorem Line.offerAll_badFrames (cs : List Call) (l : Line) : (Line.offerAll cs l).badFrames = l.badFrames := by
  induction cs generalizing l with
  | nil => rfl
  | cons c cs ih => unfold Line.offerAll; split <;> [(next m h => rw [ih, Line.offerStop_badFrames _ h]); rfl]
theorem Line.offerStop_contentions {l m : Line} (i : Item) (h : l.offerStop i = some m) : m.contentions = l.contentions := by
  unfold Line.offerStop at h; split at h <;> [skip; split at h] <;> cases h <;> rfl
@[simp] theorem Line.offerAll_contentions (cs : List Call) (l : Line) : (Line.offerAll cs l).contentions = l.contentions := by
  induction cs generalizing l with
  | nil => rfl
  | cons c cs ih => unfold Line.offerAll; split <;> [(next m h => rw [ih, Line.offerStop_contentions _ h]); rfl]
theorem Line.offerStop_faults {l m : Line} (i : Item) (h : l.offerStop i = some m) : m.faults = l.faults := by
  unfold Line.offerStop at h; split at h <;> [skip; split at h] <;> cases h <;> rfl
@[simp] theorem Line.offerAll_faults (cs : List Call) (l : Line) : (Line.offerAll cs l).faults = l.faults := by
  induction cs generalizing l with
  | nil => rfl
  | cons c cs ih => unfold Line.offerAll; split <;> [(next m h => rw [ih, Line.offerStop_faults _ h]); rfl]
theorem Line.offerStop_routine {l m : Line} (i : Item) (h : l.offerStop i = some m) : m.routine = l.routine := by
  unfold Line.offerStop at h; split at h <;> [skip; split at h] <;> cases h <;> rfl
@[simp] theorem Line.offerAll_routine (cs : List Call) (l : Line) : (Line.offerAll cs l).routine = l.routine := by
  induction cs generalizing l with
  | nil => rfl
  | cons c cs ih => unfold Line.offerAll; split <;> [(next m h => rw [ih, Line.offerStop_routine _ h]); rfl]
theorem Line.offerStop_classMap {l m : Line} (i : Item) (h : l.offerStop i = some m) : m.classMap = l.classMap := by
  unfold Line.offerStop at h; split at h <;> [skip; split at h] <;> cases h <;> rfl
@[simp] theorem Line.offerAll_classMap (cs : List Call) (l : Line) : (Line.offerAll cs l).classMap = l.classMap := by
  induction cs generalizing l with
  | nil => rfl
  | cons c cs ih => unfold Line.offerAll; split <;> [(next m h => rw [ih, Line.offerStop_classMap _ h]); rfl]
theorem Line.offerStop_cursor {l m : Line} (i : Item) (h : l.offerStop i = some m) : m.cursor = l.cursor := by
  unfold Line.offerStop at h; split at h <;> [skip; split at h] <;> cases h <;> rfl
@[simp] theorem Line.offerAll_cursor (cs : List Call) (l : Line) : (Line.offerAll cs l).cursor = l.cursor := by
  induction cs generalizing l with
  | nil => rfl
  | cons c cs ih => unfold Line.offerAll; split <;> [(next m h => rw [ih, Line.offerStop_cursor _ h]); rfl]
theorem Line.offerStop_highestSent {l m : Line} (i : Item) (h : l.offerStop i = some m) : m.highestSent = l.highestSent := by
  unfold Line.offerStop at h; split at h <;> [skip; split at h] <;> cases h <;> rfl
@[simp] theorem Line.offerAll_highestSent (cs : List Call) (l : Line) : (Line.offerAll cs l).highestSent = l.highestSent := by
  induction cs generalizing l with
  | nil => rfl
  | cons c cs ih => unfold Line.offerAll; split <;> [(next m h => rw [ih, Line.offerStop_highestSent _ h]); rfl]
theorem Line.offerStop_saleAckTimer {l m : Line} (i : Item) (h : l.offerStop i = some m) : m.saleAckTimer = l.saleAckTimer := by
  unfold Line.offerStop at h; split at h <;> [skip; split at h] <;> cases h <;> rfl
@[simp] theorem Line.offerAll_saleAckTimer (cs : List Call) (l : Line) : (Line.offerAll cs l).saleAckTimer = l.saleAckTimer := by
  induction cs generalizing l with
  | nil => rfl
  | cons c cs ih => unfold Line.offerAll; split <;> [(next m h => rw [ih, Line.offerStop_saleAckTimer _ h]); rfl]
theorem Line.offerStop_params {l m : Line} (i : Item) (h : l.offerStop i = some m) : m.params = l.params := by
  unfold Line.offerStop at h; split at h <;> [skip; split at h] <;> cases h <;> rfl
@[simp] theorem Line.offerAll_params (cs : List Call) (l : Line) : (Line.offerAll cs l).params = l.params := by
  induction cs generalizing l with
  | nil => rfl
  | cons c cs ih => unfold Line.offerAll; split <;> [(next m h => rw [ih, Line.offerStop_params _ h]); rfl]
theorem Line.offerStop_condition {l m : Line} (i : Item) (h : l.offerStop i = some m) : m.condition = l.condition := by
  unfold Line.offerStop at h; split at h <;> [skip; split at h] <;> cases h <;> rfl
@[simp] theorem Line.offerAll_condition (cs : List Call) (l : Line) : (Line.offerAll cs l).condition = l.condition := by
  induction cs generalizing l with
  | nil => rfl
  | cons c cs ih => unfold Line.offerAll; split <;> [(next m h => rw [ih, Line.offerStop_condition _ h]); rfl]
theorem Line.offerStop_textCode {l m : Line} (i : Item) (h : l.offerStop i = some m) : m.textCode = l.textCode := by
  unfold Line.offerStop at h; split at h <;> [skip; split at h] <;> cases h <;> rfl
@[simp] theorem Line.offerAll_textCode (cs : List Call) (l : Line) : (Line.offerAll cs l).textCode = l.textCode := by
  induction cs generalizing l with
  | nil => rfl
  | cons c cs ih => unfold Line.offerAll; split <;> [(next m h => rw [ih, Line.offerStop_textCode _ h]); rfl]
theorem Line.offerStop_tableReused {l m : Line} (i : Item) (h : l.offerStop i = some m) : m.tableReused = l.tableReused := by
  unfold Line.offerStop at h; split at h <;> [skip; split at h] <;> cases h <;> rfl
@[simp] theorem Line.offerAll_tableReused (cs : List Call) (l : Line) : (Line.offerAll cs l).tableReused = l.tableReused := by
  induction cs generalizing l with
  | nil => rfl
  | cons c cs ih => unfold Line.offerAll; split <;> [(next m h => rw [ih, Line.offerStop_tableReused _ h]); rfl]
theorem Line.offerStop_statusOwed {l m : Line} (i : Item) (h : l.offerStop i = some m) : m.statusOwed = l.statusOwed := by
  unfold Line.offerStop at h; split at h <;> [skip; split at h] <;> cases h <;> rfl
@[simp] theorem Line.offerAll_statusOwed (cs : List Call) (l : Line) : (Line.offerAll cs l).statusOwed = l.statusOwed := by
  induction cs generalizing l with
  | nil => rfl
  | cons c cs ih => unfold Line.offerAll; split <;> [(next m h => rw [ih, Line.offerStop_statusOwed _ h]); rfl]
theorem Line.offerStop_statusTimer {l m : Line} (i : Item) (h : l.offerStop i = some m) : m.statusTimer = l.statusTimer := by
  unfold Line.offerStop at h; split at h <;> [skip; split at h] <;> cases h <;> rfl
@[simp] theorem Line.offerAll_statusTimer (cs : List Call) (l : Line) : (Line.offerAll cs l).statusTimer = l.statusTimer := by
  induction cs generalizing l with
  | nil => rfl
  | cons c cs ih => unfold Line.offerAll; split <;> [(next m h => rw [ih, Line.offerStop_statusTimer _ h]); rfl]

end Sys2Proof.Machine
end

