-- ==== Sys2Proof/Laws/Frames.lean ====
section
/-! SUPPORT. Frames of the shared operations that split into cases: each block an operation leaves alone. -/

namespace Sys2Proof.Machine

@[simp] theorem wake_calls (b : Bool) (s : State) : (wake b s).calls = s.calls := by unfold wake; split <;> rfl
@[simp] theorem wake_board (b : Bool) (s : State) : (wake b s).board = s.board := by unfold wake; split <;> rfl
@[simp] theorem wake_clock (b : Bool) (s : State) : (wake b s).clock = s.clock := by unfold wake; split <;> rfl
@[simp] theorem wake_fares (b : Bool) (s : State) : (wake b s).fares = s.fares := by unfold wake; split <;> rfl
@[simp] theorem wake_issue (b : Bool) (s : State) : (wake b s).issue = s.issue := by unfold wake; split <;> rfl
@[simp] theorem wake_line (b : Bool) (s : State) : (wake b s).line = s.line := by unfold wake; split <;> rfl
@[simp] theorem wake_platform (b : Bool) (s : State) : (wake b s).platform = s.platform := by unfold wake; split <;> rfl
@[simp] theorem wake_vport (b : Bool) (s : State) : (wake b s).vport = s.vport := by unfold wake; split <;> rfl
@[simp] theorem wake_pending (b : Bool) (s : State) : (wake b s).pending = s.pending := by unfold wake; split <;> rfl

@[simp] theorem evalDemandAt_calls (b : Bool) (s : State) : (evalDemandAt b s).calls = s.calls := by
  unfold evalDemandAt
  split
  · split <;> simp
  all_goals rfl
@[simp] theorem evalDemandAt_board (b : Bool) (s : State) : (evalDemandAt b s).board = s.board := by
  unfold evalDemandAt
  split
  · split <;> simp
  all_goals rfl
@[simp] theorem evalDemandAt_clock (b : Bool) (s : State) : (evalDemandAt b s).clock = s.clock := by
  unfold evalDemandAt
  split
  · split <;> simp
  all_goals rfl
@[simp] theorem evalDemandAt_fares (b : Bool) (s : State) : (evalDemandAt b s).fares = s.fares := by
  unfold evalDemandAt
  split
  · split <;> simp
  all_goals rfl
@[simp] theorem evalDemandAt_issue (b : Bool) (s : State) : (evalDemandAt b s).issue = s.issue := by
  unfold evalDemandAt
  split
  · split <;> simp
  all_goals rfl
@[simp] theorem evalDemandAt_line (b : Bool) (s : State) : (evalDemandAt b s).line = s.line := by
  unfold evalDemandAt
  split
  · split <;> simp
  all_goals rfl
@[simp] theorem evalDemandAt_platform (b : Bool) (s : State) : (evalDemandAt b s).platform = s.platform := by
  unfold evalDemandAt
  split
  · split <;> simp
  all_goals rfl
@[simp] theorem evalDemandAt_vport (b : Bool) (s : State) : (evalDemandAt b s).vport = s.vport := by
  unfold evalDemandAt
  split
  · split <;> simp
  all_goals rfl
@[simp] theorem evalDemandAt_pending (b : Bool) (s : State) : (evalDemandAt b s).pending = s.pending := by
  unfold evalDemandAt
  split
  · split <;> simp
  all_goals rfl

@[simp] theorem evalDemand_calls (s : State) : (evalDemand s).calls = s.calls := by simp [evalDemand]
@[simp] theorem evalDemand_board (s : State) : (evalDemand s).board = s.board := by simp [evalDemand]
@[simp] theorem evalDemand_clock (s : State) : (evalDemand s).clock = s.clock := by simp [evalDemand]
@[simp] theorem evalDemand_fares (s : State) : (evalDemand s).fares = s.fares := by simp [evalDemand]
@[simp] theorem evalDemand_issue (s : State) : (evalDemand s).issue = s.issue := by simp [evalDemand]
@[simp] theorem evalDemand_line (s : State) : (evalDemand s).line = s.line := by simp [evalDemand]
@[simp] theorem evalDemand_platform (s : State) : (evalDemand s).platform = s.platform := by simp [evalDemand]
@[simp] theorem evalDemand_vport (s : State) : (evalDemand s).vport = s.vport := by simp [evalDemand]
@[simp] theorem evalDemand_pending (s : State) : (evalDemand s).pending = s.pending := by simp [evalDemand]

@[simp] theorem newBoard_calls (s : State) : (newBoard s).calls = s.calls := by unfold newBoard; split <;> rfl
@[simp] theorem newBoard_clock (s : State) : (newBoard s).clock = s.clock := by unfold newBoard; split <;> rfl
@[simp] theorem newBoard_fares (s : State) : (newBoard s).fares = s.fares := by unfold newBoard; split <;> rfl
@[simp] theorem newBoard_issue (s : State) : (newBoard s).issue = s.issue := by unfold newBoard; split <;> rfl
@[simp] theorem newBoard_line (s : State) : (newBoard s).line = s.line := by unfold newBoard; split <;> rfl
@[simp] theorem newBoard_platform (s : State) : (newBoard s).platform = s.platform := by unfold newBoard; split <;> rfl
@[simp] theorem newBoard_screen (s : State) : (newBoard s).screen = s.screen := by unfold newBoard; split <;> rfl
@[simp] theorem newBoard_vport (s : State) : (newBoard s).vport = s.vport := by unfold newBoard; split <;> rfl
@[simp] theorem newBoard_wakes (s : State) : (newBoard s).wakes = s.wakes := by unfold newBoard; split <;> rfl
@[simp] theorem newBoard_pending (s : State) : (newBoard s).pending = s.pending := by unfold newBoard; split <;> rfl

@[simp] theorem rebuild_calls (s : State) : (rebuild s).calls = s.calls := by simp [rebuild]
@[simp] theorem rebuild_clock (s : State) : (rebuild s).clock = s.clock := by simp [rebuild]
@[simp] theorem rebuild_fares (s : State) : (rebuild s).fares = s.fares := by simp [rebuild]
@[simp] theorem rebuild_issue (s : State) : (rebuild s).issue = s.issue := by simp [rebuild]
@[simp] theorem rebuild_line (s : State) : (rebuild s).line = s.line := by simp [rebuild]
@[simp] theorem rebuild_platform (s : State) : (rebuild s).platform = s.platform := by simp [rebuild]
@[simp] theorem rebuild_vport (s : State) : (rebuild s).vport = s.vport := by simp [rebuild]
@[simp] theorem rebuild_pending (s : State) : (rebuild s).pending = s.pending := by simp [rebuild]

@[simp] theorem grantAsked_calls (s : State) : (grantAsked s).calls = s.calls := by unfold grantAsked; split <;> simp
@[simp] theorem grantAsked_board (s : State) : (grantAsked s).board = s.board := by unfold grantAsked; split <;> simp
@[simp] theorem grantAsked_clock (s : State) : (grantAsked s).clock = s.clock := by unfold grantAsked; split <;> simp
@[simp] theorem grantAsked_fares (s : State) : (grantAsked s).fares = s.fares := by unfold grantAsked; split <;> simp
@[simp] theorem grantAsked_platform (s : State) : (grantAsked s).platform = s.platform := by unfold grantAsked; split <;> simp
@[simp] theorem grantAsked_screen (s : State) : (grantAsked s).screen = s.screen := by unfold grantAsked; split <;> simp
@[simp] theorem grantAsked_sport (s : State) : (grantAsked s).sport = s.sport := by unfold grantAsked; split <;> simp
@[simp] theorem grantAsked_wakes (s : State) : (grantAsked s).wakes = s.wakes := by unfold grantAsked; split <;> simp
@[simp] theorem grantAsked_pending (s : State) : (grantAsked s).pending = s.pending := by unfold grantAsked; split <;> simp

@[simp] theorem endSale_calls (s : State) : (endSale s).calls = s.calls := by simp [endSale]
@[simp] theorem endSale_board (s : State) : (endSale s).board = s.board := by simp [endSale]
@[simp] theorem endSale_clock (s : State) : (endSale s).clock = s.clock := by simp [endSale]
@[simp] theorem endSale_fares (s : State) : (endSale s).fares = s.fares := by simp [endSale]
@[simp] theorem endSale_platform (s : State) : (endSale s).platform = s.platform := by simp [endSale]
@[simp] theorem endSale_screen (s : State) : (endSale s).screen = s.screen := by simp [endSale]
@[simp] theorem endSale_sport (s : State) : (endSale s).sport = s.sport := by simp [endSale]
@[simp] theorem endSale_wakes (s : State) : (endSale s).wakes = s.wakes := by simp [endSale]
@[simp] theorem endSale_pending (s : State) : (endSale s).pending = s.pending := by simp [endSale]

@[simp] theorem voidSale_calls (n : Nat) (s : State) : (voidSale n s).calls = s.calls := by unfold voidSale; split <;> first | rfl | (split <;> simp)
@[simp] theorem voidSale_board (n : Nat) (s : State) : (voidSale n s).board = s.board := by unfold voidSale; split <;> first | rfl | (split <;> simp)
@[simp] theorem voidSale_clock (n : Nat) (s : State) : (voidSale n s).clock = s.clock := by unfold voidSale; split <;> first | rfl | (split <;> simp)
@[simp] theorem voidSale_fares (n : Nat) (s : State) : (voidSale n s).fares = s.fares := by unfold voidSale; split <;> first | rfl | (split <;> simp)
@[simp] theorem voidSale_line (n : Nat) (s : State) : (voidSale n s).line = s.line := by unfold voidSale; split <;> first | rfl | (split <;> simp)
@[simp] theorem voidSale_platform (n : Nat) (s : State) : (voidSale n s).platform = s.platform := by unfold voidSale; split <;> first | rfl | (split <;> simp)
@[simp] theorem voidSale_screen (n : Nat) (s : State) : (voidSale n s).screen = s.screen := by unfold voidSale; split <;> first | rfl | (split <;> simp)
@[simp] theorem voidSale_sport (n : Nat) (s : State) : (voidSale n s).sport = s.sport := by unfold voidSale; split <;> first | rfl | (split <;> simp)
@[simp] theorem voidSale_wakes (n : Nat) (s : State) : (voidSale n s).wakes = s.wakes := by unfold voidSale; split <;> first | rfl | (split <;> simp)
@[simp] theorem voidSale_pending (n : Nat) (s : State) : (voidSale n s).pending = s.pending := by unfold voidSale; split <;> first | rfl | (split <;> simp)

@[simp] theorem lowWater_calls (b : Bool) (s : State) : (lowWater b s).calls = s.calls := by unfold lowWater; split <;> simp
@[simp] theorem lowWater_board (b : Bool) (s : State) : (lowWater b s).board = s.board := by unfold lowWater; split <;> simp
@[simp] theorem lowWater_clock (b : Bool) (s : State) : (lowWater b s).clock = s.clock := by unfold lowWater; split <;> simp
@[simp] theorem lowWater_fares (b : Bool) (s : State) : (lowWater b s).fares = s.fares := by unfold lowWater; split <;> simp
@[simp] theorem lowWater_platform (b : Bool) (s : State) : (lowWater b s).platform = s.platform := by unfold lowWater; split <;> simp
@[simp] theorem lowWater_screen (b : Bool) (s : State) : (lowWater b s).screen = s.screen := by unfold lowWater; split <;> simp
@[simp] theorem lowWater_sport (b : Bool) (s : State) : (lowWater b s).sport = s.sport := by unfold lowWater; split <;> simp
@[simp] theorem lowWater_wakes (b : Bool) (s : State) : (lowWater b s).wakes = s.wakes := by unfold lowWater; split <;> simp
@[simp] theorem lowWater_pending (b : Bool) (s : State) : (lowWater b s).pending = s.pending := by unfold lowWater; split <;> simp

@[simp] theorem leaveSaleable_board (n : Nat) (s : State) : (leaveSaleable n s).board = s.board := by simp [leaveSaleable]
@[simp] theorem leaveSaleable_clock (n : Nat) (s : State) : (leaveSaleable n s).clock = s.clock := by simp [leaveSaleable]
@[simp] theorem leaveSaleable_fares (n : Nat) (s : State) : (leaveSaleable n s).fares = s.fares := by simp [leaveSaleable]
@[simp] theorem leaveSaleable_platform (n : Nat) (s : State) : (leaveSaleable n s).platform = s.platform := by simp [leaveSaleable]
@[simp] theorem leaveSaleable_screen (n : Nat) (s : State) : (leaveSaleable n s).screen = s.screen := by simp [leaveSaleable]
@[simp] theorem leaveSaleable_sport (n : Nat) (s : State) : (leaveSaleable n s).sport = s.sport := by simp [leaveSaleable]
@[simp] theorem leaveSaleable_wakes (n : Nat) (s : State) : (leaveSaleable n s).wakes = s.wakes := by simp [leaveSaleable]
@[simp] theorem leaveSaleable_pending (n : Nat) (s : State) : (leaveSaleable n s).pending = s.pending := by simp [leaveSaleable]
theorem foldl_leaveSaleable_board (ns : List Nat) (s : State) :
    (ns.foldl (fun t n => leaveSaleable n t) s).board = s.board := by
  induction ns generalizing s with
  | nil => rfl
  | cons n ns ih => rw [List.foldl_cons, ih, leaveSaleable_board]
theorem foldl_leaveSaleable_clock (ns : List Nat) (s : State) :
    (ns.foldl (fun t n => leaveSaleable n t) s).clock = s.clock := by
  induction ns generalizing s with
  | nil => rfl
  | cons n ns ih => rw [List.foldl_cons, ih, leaveSaleable_clock]
theorem foldl_leaveSaleable_fares (ns : List Nat) (s : State) :
    (ns.foldl (fun t n => leaveSaleable n t) s).fares = s.fares := by
  induction ns generalizing s with
  | nil => rfl
  | cons n ns ih => rw [List.foldl_cons, ih, leaveSaleable_fares]
theorem foldl_leaveSaleable_platform (ns : List Nat) (s : State) :
    (ns.foldl (fun t n => leaveSaleable n t) s).platform = s.platform := by
  induction ns generalizing s with
  | nil => rfl
  | cons n ns ih => rw [List.foldl_cons, ih, leaveSaleable_platform]
theorem foldl_leaveSaleable_screen (ns : List Nat) (s : State) :
    (ns.foldl (fun t n => leaveSaleable n t) s).screen = s.screen := by
  induction ns generalizing s with
  | nil => rfl
  | cons n ns ih => rw [List.foldl_cons, ih, leaveSaleable_screen]
theorem foldl_leaveSaleable_sport (ns : List Nat) (s : State) :
    (ns.foldl (fun t n => leaveSaleable n t) s).sport = s.sport := by
  induction ns generalizing s with
  | nil => rfl
  | cons n ns ih => rw [List.foldl_cons, ih, leaveSaleable_sport]
theorem foldl_leaveSaleable_wakes (ns : List Nat) (s : State) :
    (ns.foldl (fun t n => leaveSaleable n t) s).wakes = s.wakes := by
  induction ns generalizing s with
  | nil => rfl
  | cons n ns ih => rw [List.foldl_cons, ih, leaveSaleable_wakes]
theorem foldl_leaveSaleable_pending (ns : List Nat) (s : State) :
    (ns.foldl (fun t n => leaveSaleable n t) s).pending = s.pending := by
  induction ns generalizing s with
  | nil => rfl
  | cons n ns ih => rw [List.foldl_cons, ih, leaveSaleable_pending]

@[simp] theorem evaluateAll_board (s : State) : (evaluateAll s).board = s.board := by
  unfold evaluateAll
  split
  · rw [foldl_leaveSaleable_board]; rfl
  · rfl
@[simp] theorem evaluateAll_clock (s : State) : (evaluateAll s).clock = s.clock := by
  unfold evaluateAll
  split
  · rw [foldl_leaveSaleable_clock]; rfl
  · rfl
@[simp] theorem evaluateAll_fares (s : State) : (evaluateAll s).fares = s.fares := by
  unfold evaluateAll
  split
  · rw [foldl_leaveSaleable_fares]; rfl
  · rfl
@[simp] theorem evaluateAll_platform (s : State) : (evaluateAll s).platform = s.platform := by
  unfold evaluateAll
  split
  · rw [foldl_leaveSaleable_platform]; rfl
  · rfl
@[simp] theorem evaluateAll_screen (s : State) : (evaluateAll s).screen = s.screen := by
  unfold evaluateAll
  split
  · rw [foldl_leaveSaleable_screen]; rfl
  · rfl
@[simp] theorem evaluateAll_sport (s : State) : (evaluateAll s).sport = s.sport := by
  unfold evaluateAll
  split
  · rw [foldl_leaveSaleable_sport]; rfl
  · rfl
@[simp] theorem evaluateAll_wakes (s : State) : (evaluateAll s).wakes = s.wakes := by
  unfold evaluateAll
  split
  · rw [foldl_leaveSaleable_wakes]; rfl
  · rfl
@[simp] theorem evaluateAll_pending (s : State) : (evaluateAll s).pending = s.pending := by
  unfold evaluateAll
  split
  · rw [foldl_leaveSaleable_pending]; rfl
  · rfl

@[simp] theorem recomputeAll_board (s : State) : (recomputeAll s).board = s.board := by simp [recomputeAll]
@[simp] theorem recomputeAll_clock (s : State) : (recomputeAll s).clock = s.clock := by simp [recomputeAll]
@[simp] theorem recomputeAll_fares (s : State) : (recomputeAll s).fares = s.fares := by simp [recomputeAll]
@[simp] theorem recomputeAll_platform (s : State) : (recomputeAll s).platform = s.platform := by simp [recomputeAll]
@[simp] theorem recomputeAll_screen (s : State) : (recomputeAll s).screen = s.screen := by simp [recomputeAll]
@[simp] theorem recomputeAll_sport (s : State) : (recomputeAll s).sport = s.sport := by simp [recomputeAll]
@[simp] theorem recomputeAll_wakes (s : State) : (recomputeAll s).wakes = s.wakes := by simp [recomputeAll]
@[simp] theorem recomputeAll_pending (s : State) : (recomputeAll s).pending = s.pending := by simp [recomputeAll]

@[simp] theorem evaluateCall_board (n : Nat) (s : State) : (evaluateCall n s).board = s.board := by unfold evaluateCall; split <;> [(dsimp only; split <;> simp); rfl]
@[simp] theorem evaluateCall_clock (n : Nat) (s : State) : (evaluateCall n s).clock = s.clock := by unfold evaluateCall; split <;> [(dsimp only; split <;> simp); rfl]
@[simp] theorem evaluateCall_fares (n : Nat) (s : State) : (evaluateCall n s).fares = s.fares := by unfold evaluateCall; split <;> [(dsimp only; split <;> simp); rfl]
@[simp] theorem evaluateCall_platform (n : Nat) (s : State) : (evaluateCall n s).platform = s.platform := by unfold evaluateCall; split <;> [(dsimp only; split <;> simp); rfl]
@[simp] theorem evaluateCall_screen (n : Nat) (s : State) : (evaluateCall n s).screen = s.screen := by unfold evaluateCall; split <;> [(dsimp only; split <;> simp); rfl]
@[simp] theorem evaluateCall_sport (n : Nat) (s : State) : (evaluateCall n s).sport = s.sport := by unfold evaluateCall; split <;> [(dsimp only; split <;> simp); rfl]
@[simp] theorem evaluateCall_wakes (n : Nat) (s : State) : (evaluateCall n s).wakes = s.wakes := by unfold evaluateCall; split <;> [(dsimp only; split <;> simp); rfl]
@[simp] theorem evaluateCall_pending (n : Nat) (s : State) : (evaluateCall n s).pending = s.pending := by unfold evaluateCall; split <;> [(dsimp only; split <;> simp); rfl]

@[simp] theorem recomputeCall_board (n : Nat) (s : State) : (recomputeCall n s).board = s.board := by simp [recomputeCall]
@[simp] theorem recomputeCall_clock (n : Nat) (s : State) : (recomputeCall n s).clock = s.clock := by simp [recomputeCall]
@[simp] theorem recomputeCall_fares (n : Nat) (s : State) : (recomputeCall n s).fares = s.fares := by simp [recomputeCall]
@[simp] theorem recomputeCall_platform (n : Nat) (s : State) : (recomputeCall n s).platform = s.platform := by simp [recomputeCall]
@[simp] theorem recomputeCall_screen (n : Nat) (s : State) : (recomputeCall n s).screen = s.screen := by simp [recomputeCall]
@[simp] theorem recomputeCall_sport (n : Nat) (s : State) : (recomputeCall n s).sport = s.sport := by simp [recomputeCall]
@[simp] theorem recomputeCall_wakes (n : Nat) (s : State) : (recomputeCall n s).wakes = s.wakes := by simp [recomputeCall]
@[simp] theorem recomputeCall_pending (n : Nat) (s : State) : (recomputeCall n s).pending = s.pending := by simp [recomputeCall]

@[simp] theorem wantStop_board (n : Nat) (o : Origin) (s : State) : (wantStop n o s).board = s.board := by unfold wantStop; split <;> [(dsimp only; split <;> simp); rfl]
@[simp] theorem wantStop_clock (n : Nat) (o : Origin) (s : State) : (wantStop n o s).clock = s.clock := by unfold wantStop; split <;> [(dsimp only; split <;> simp); rfl]
@[simp] theorem wantStop_fares (n : Nat) (o : Origin) (s : State) : (wantStop n o s).fares = s.fares := by unfold wantStop; split <;> [(dsimp only; split <;> simp); rfl]
@[simp] theorem wantStop_issue (n : Nat) (o : Origin) (s : State) : (wantStop n o s).issue = s.issue := by unfold wantStop; split <;> [(dsimp only; split <;> simp); rfl]
@[simp] theorem wantStop_platform (n : Nat) (o : Origin) (s : State) : (wantStop n o s).platform = s.platform := by unfold wantStop; split <;> [(dsimp only; split <;> simp); rfl]
@[simp] theorem wantStop_screen (n : Nat) (o : Origin) (s : State) : (wantStop n o s).screen = s.screen := by unfold wantStop; split <;> [(dsimp only; split <;> simp); rfl]
@[simp] theorem wantStop_vport (n : Nat) (o : Origin) (s : State) : (wantStop n o s).vport = s.vport := by unfold wantStop; split <;> [(dsimp only; split <;> simp); rfl]
@[simp] theorem wantStop_sport (n : Nat) (o : Origin) (s : State) : (wantStop n o s).sport = s.sport := by unfold wantStop; split <;> [(dsimp only; split <;> simp); rfl]
@[simp] theorem wantStop_wakes (n : Nat) (o : Origin) (s : State) : (wantStop n o s).wakes = s.wakes := by unfold wantStop; split <;> [(dsimp only; split <;> simp); rfl]
@[simp] theorem wantStop_pending (n : Nat) (o : Origin) (s : State) : (wantStop n o s).pending = s.pending := by unfold wantStop; split <;> [(dsimp only; split <;> simp); rfl]

@[simp] theorem closeDay_board (s : State) : (closeDay s).board = s.board := by
  unfold closeDay; rw [foldl_leaveSaleable_board]; rfl
@[simp] theorem closeDay_clock (s : State) : (closeDay s).clock = s.clock := by
  unfold closeDay; rw [foldl_leaveSaleable_clock]; rfl
@[simp] theorem closeDay_fares (s : State) : (closeDay s).fares = s.fares := by
  unfold closeDay; rw [foldl_leaveSaleable_fares]; rfl
@[simp] theorem closeDay_platform (s : State) : (closeDay s).platform = s.platform := by
  unfold closeDay; rw [foldl_leaveSaleable_platform]; rfl
@[simp] theorem closeDay_screen (s : State) : (closeDay s).screen = s.screen := by
  unfold closeDay; rw [foldl_leaveSaleable_screen]; rfl
@[simp] theorem closeDay_sport (s : State) : (closeDay s).sport = s.sport := by
  unfold closeDay; rw [foldl_leaveSaleable_sport]; rfl
@[simp] theorem closeDay_wakes (s : State) : (closeDay s).wakes = s.wakes := by
  unfold closeDay; rw [foldl_leaveSaleable_wakes]; rfl
@[simp] theorem closeDay_pending (s : State) : (closeDay s).pending = s.pending := by
  unfold closeDay; rw [foldl_leaveSaleable_pending]; rfl

@[simp] theorem openDay_board (s : State) : (openDay s).board = s.board := by unfold openDay; split <;> simp
@[simp] theorem openDay_clock (s : State) : (openDay s).clock = s.clock := by unfold openDay; split <;> simp
@[simp] theorem openDay_fares (s : State) : (openDay s).fares = s.fares := by unfold openDay; split <;> simp
@[simp] theorem openDay_issue (s : State) : (openDay s).issue = s.issue := by unfold openDay; split <;> simp
@[simp] theorem openDay_platform (s : State) : (openDay s).platform = s.platform := by unfold openDay; split <;> simp
@[simp] theorem openDay_screen (s : State) : (openDay s).screen = s.screen := by unfold openDay; split <;> simp
@[simp] theorem openDay_vport (s : State) : (openDay s).vport = s.vport := by unfold openDay; split <;> simp
@[simp] theorem openDay_sport (s : State) : (openDay s).sport = s.sport := by unfold openDay; split <;> simp
@[simp] theorem openDay_wakes (s : State) : (openDay s).wakes = s.wakes := by unfold openDay; split <;> simp
@[simp] theorem openDay_pending (s : State) : (openDay s).pending = s.pending := by unfold openDay; split <;> simp

@[simp] theorem markDayCrossed_calls (s : State) : (markDayCrossed s).calls = s.calls := by unfold markDayCrossed; split <;> rfl
@[simp] theorem markDayCrossed_board (s : State) : (markDayCrossed s).board = s.board := by unfold markDayCrossed; split <;> rfl
@[simp] theorem markDayCrossed_clock (s : State) : (markDayCrossed s).clock = s.clock := by unfold markDayCrossed; split <;> rfl
@[simp] theorem markDayCrossed_fares (s : State) : (markDayCrossed s).fares = s.fares := by unfold markDayCrossed; split <;> rfl
@[simp] theorem markDayCrossed_issue (s : State) : (markDayCrossed s).issue = s.issue := by unfold markDayCrossed; split <;> rfl
@[simp] theorem markDayCrossed_line (s : State) : (markDayCrossed s).line = s.line := by unfold markDayCrossed; split <;> rfl
@[simp] theorem markDayCrossed_screen (s : State) : (markDayCrossed s).screen = s.screen := by unfold markDayCrossed; split <;> rfl
@[simp] theorem markDayCrossed_vport (s : State) : (markDayCrossed s).vport = s.vport := by unfold markDayCrossed; split <;> rfl
@[simp] theorem markDayCrossed_sport (s : State) : (markDayCrossed s).sport = s.sport := by unfold markDayCrossed; split <;> rfl
@[simp] theorem markDayCrossed_wakes (s : State) : (markDayCrossed s).wakes = s.wakes := by unfold markDayCrossed; split <;> rfl
@[simp] theorem markDayCrossed_pending (s : State) : (markDayCrossed s).pending = s.pending := by unfold markDayCrossed; split <;> rfl

@[simp] theorem rolloverCalls_board (s : State) : (rolloverCalls s).board = s.board := by simp [rolloverCalls]
@[simp] theorem rolloverCalls_clock (s : State) : (rolloverCalls s).clock = s.clock := by simp [rolloverCalls]
@[simp] theorem rolloverCalls_fares (s : State) : (rolloverCalls s).fares = s.fares := by simp [rolloverCalls]
@[simp] theorem rolloverCalls_screen (s : State) : (rolloverCalls s).screen = s.screen := by simp [rolloverCalls]
@[simp] theorem rolloverCalls_sport (s : State) : (rolloverCalls s).sport = s.sport := by simp [rolloverCalls]
@[simp] theorem rolloverCalls_wakes (s : State) : (rolloverCalls s).wakes = s.wakes := by simp [rolloverCalls]
@[simp] theorem rolloverCalls_pending (s : State) : (rolloverCalls s).pending = s.pending := by simp [rolloverCalls]

@[simp] theorem reportDeparture_board (n : Nat) (r : Stamp) (s : State) : (reportDeparture n r s).board = s.board := by unfold reportDeparture; split <;> simp
@[simp] theorem reportDeparture_clock (n : Nat) (r : Stamp) (s : State) : (reportDeparture n r s).clock = s.clock := by unfold reportDeparture; split <;> simp
@[simp] theorem reportDeparture_fares (n : Nat) (r : Stamp) (s : State) : (reportDeparture n r s).fares = s.fares := by unfold reportDeparture; split <;> simp
@[simp] theorem reportDeparture_platform (n : Nat) (r : Stamp) (s : State) : (reportDeparture n r s).platform = s.platform := by unfold reportDeparture; split <;> simp
@[simp] theorem reportDeparture_screen (n : Nat) (r : Stamp) (s : State) : (reportDeparture n r s).screen = s.screen := by unfold reportDeparture; split <;> simp
@[simp] theorem reportDeparture_sport (n : Nat) (r : Stamp) (s : State) : (reportDeparture n r s).sport = s.sport := by unfold reportDeparture; split <;> simp
@[simp] theorem reportDeparture_wakes (n : Nat) (r : Stamp) (s : State) : (reportDeparture n r s).wakes = s.wakes := by unfold reportDeparture; split <;> simp
@[simp] theorem reportDeparture_pending (n : Nat) (r : Stamp) (s : State) : (reportDeparture n r s).pending = s.pending := by unfold reportDeparture; split <;> simp

@[simp] theorem decideStop_board (s : State) : (decideStop s).board = s.board := by unfold decideStop; dsimp only; split <;> simp
@[simp] theorem decideStop_clock (s : State) : (decideStop s).clock = s.clock := by unfold decideStop; dsimp only; split <;> simp
@[simp] theorem decideStop_fares (s : State) : (decideStop s).fares = s.fares := by unfold decideStop; dsimp only; split <;> simp
@[simp] theorem decideStop_issue (s : State) : (decideStop s).issue = s.issue := by unfold decideStop; dsimp only; split <;> simp
@[simp] theorem decideStop_screen (s : State) : (decideStop s).screen = s.screen := by unfold decideStop; dsimp only; split <;> simp
@[simp] theorem decideStop_vport (s : State) : (decideStop s).vport = s.vport := by unfold decideStop; dsimp only; split <;> simp
@[simp] theorem decideStop_sport (s : State) : (decideStop s).sport = s.sport := by unfold decideStop; dsimp only; split <;> simp
@[simp] theorem decideStop_wakes (s : State) : (decideStop s).wakes = s.wakes := by unfold decideStop; dsimp only; split <;> simp
@[simp] theorem decideStop_pending (s : State) : (decideStop s).pending = s.pending := by unfold decideStop; dsimp only; split <;> simp

@[simp] theorem decidePass_board (s : State) : (decidePass s).board = s.board := by unfold decidePass; dsimp only; split <;> simp
@[simp] theorem decidePass_clock (s : State) : (decidePass s).clock = s.clock := by unfold decidePass; dsimp only; split <;> simp
@[simp] theorem decidePass_fares (s : State) : (decidePass s).fares = s.fares := by unfold decidePass; dsimp only; split <;> simp
@[simp] theorem decidePass_screen (s : State) : (decidePass s).screen = s.screen := by unfold decidePass; dsimp only; split <;> simp
@[simp] theorem decidePass_sport (s : State) : (decidePass s).sport = s.sport := by unfold decidePass; dsimp only; split <;> simp
@[simp] theorem decidePass_wakes (s : State) : (decidePass s).wakes = s.wakes := by unfold decidePass; dsimp only; split <;> simp
@[simp] theorem decidePass_pending (s : State) : (decidePass s).pending = s.pending := by unfold decidePass; dsimp only; split <;> simp

@[simp] theorem decideDeparture_board (s : State) : (decideDeparture s).board = s.board := by unfold decideDeparture; dsimp only; split <;> first | rfl | (split <;> simp)
@[simp] theorem decideDeparture_clock (s : State) : (decideDeparture s).clock = s.clock := by unfold decideDeparture; dsimp only; split <;> first | rfl | (split <;> simp)
@[simp] theorem decideDeparture_fares (s : State) : (decideDeparture s).fares = s.fares := by unfold decideDeparture; dsimp only; split <;> first | rfl | (split <;> simp)
@[simp] theorem decideDeparture_screen (s : State) : (decideDeparture s).screen = s.screen := by unfold decideDeparture; dsimp only; split <;> first | rfl | (split <;> simp)
@[simp] theorem decideDeparture_sport (s : State) : (decideDeparture s).sport = s.sport := by unfold decideDeparture; dsimp only; split <;> first | rfl | (split <;> simp)
@[simp] theorem decideDeparture_wakes (s : State) : (decideDeparture s).wakes = s.wakes := by unfold decideDeparture; dsimp only; split <;> first | rfl | (split <;> simp)
@[simp] theorem decideDeparture_pending (s : State) : (decideDeparture s).pending = s.pending := by unfold decideDeparture; dsimp only; split <;> first | rfl | (split <;> simp)

@[simp] theorem setPort_calls (p : Port) (q : PortState) (s : State) : (setPort s p q).calls = s.calls := by cases p <;> rfl
@[simp] theorem setPort_board (p : Port) (q : PortState) (s : State) : (setPort s p q).board = s.board := by cases p <;> rfl
@[simp] theorem setPort_clock (p : Port) (q : PortState) (s : State) : (setPort s p q).clock = s.clock := by cases p <;> rfl
@[simp] theorem setPort_fares (p : Port) (q : PortState) (s : State) : (setPort s p q).fares = s.fares := by cases p <;> rfl
@[simp] theorem setPort_issue (p : Port) (q : PortState) (s : State) : (setPort s p q).issue = s.issue := by cases p <;> rfl
@[simp] theorem setPort_line (p : Port) (q : PortState) (s : State) : (setPort s p q).line = s.line := by cases p <;> rfl
@[simp] theorem setPort_platform (p : Port) (q : PortState) (s : State) : (setPort s p q).platform = s.platform := by cases p <;> rfl
@[simp] theorem setPort_screen (p : Port) (q : PortState) (s : State) : (setPort s p q).screen = s.screen := by cases p <;> rfl
@[simp] theorem setPort_wakes (p : Port) (q : PortState) (s : State) : (setPort s p q).wakes = s.wakes := by cases p <;> rfl
@[simp] theorem setPort_pending (p : Port) (q : PortState) (s : State) : (setPort s p q).pending = s.pending := by cases p <;> rfl

@[simp] theorem respond_calls (p : Port) (r : Response) (s : State) : (respond p r s).calls = s.calls := by simp [respond]
@[simp] theorem respond_board (p : Port) (r : Response) (s : State) : (respond p r s).board = s.board := by simp [respond]
@[simp] theorem respond_clock (p : Port) (r : Response) (s : State) : (respond p r s).clock = s.clock := by simp [respond]
@[simp] theorem respond_fares (p : Port) (r : Response) (s : State) : (respond p r s).fares = s.fares := by simp [respond]
@[simp] theorem respond_issue (p : Port) (r : Response) (s : State) : (respond p r s).issue = s.issue := by simp [respond]
@[simp] theorem respond_line (p : Port) (r : Response) (s : State) : (respond p r s).line = s.line := by simp [respond]
@[simp] theorem respond_platform (p : Port) (r : Response) (s : State) : (respond p r s).platform = s.platform := by simp [respond]
@[simp] theorem respond_screen (p : Port) (r : Response) (s : State) : (respond p r s).screen = s.screen := by simp [respond]
@[simp] theorem respond_wakes (p : Port) (r : Response) (s : State) : (respond p r s).wakes = s.wakes := by simp [respond]
@[simp] theorem respond_pending (p : Port) (r : Response) (s : State) : (respond p r s).pending = s.pending := by simp [respond]

@[simp] theorem refuse_calls (p : Port) (r : Status) (s : State) : (refuse p r s).calls = s.calls := by simp [refuse]
@[simp] theorem refuse_board (p : Port) (r : Status) (s : State) : (refuse p r s).board = s.board := by simp [refuse]
@[simp] theorem refuse_clock (p : Port) (r : Status) (s : State) : (refuse p r s).clock = s.clock := by simp [refuse]
@[simp] theorem refuse_fares (p : Port) (r : Status) (s : State) : (refuse p r s).fares = s.fares := by simp [refuse]
@[simp] theorem refuse_issue (p : Port) (r : Status) (s : State) : (refuse p r s).issue = s.issue := by simp [refuse]
@[simp] theorem refuse_line (p : Port) (r : Status) (s : State) : (refuse p r s).line = s.line := by simp [refuse]
@[simp] theorem refuse_platform (p : Port) (r : Status) (s : State) : (refuse p r s).platform = s.platform := by simp [refuse]
@[simp] theorem refuse_screen (p : Port) (r : Status) (s : State) : (refuse p r s).screen = s.screen := by simp [refuse]
@[simp] theorem refuse_wakes (p : Port) (r : Status) (s : State) : (refuse p r s).wakes = s.wakes := by simp [refuse]
@[simp] theorem refuse_pending (p : Port) (r : Status) (s : State) : (refuse p r s).pending = s.pending := by simp [refuse]

@[simp] theorem answer_calls (p : Port) (r : List Byte) (s : State) : (answer p r s).calls = s.calls := by simp [answer]
@[simp] theorem answer_board (p : Port) (r : List Byte) (s : State) : (answer p r s).board = s.board := by simp [answer]
@[simp] theorem answer_clock (p : Port) (r : List Byte) (s : State) : (answer p r s).clock = s.clock := by simp [answer]
@[simp] theorem answer_fares (p : Port) (r : List Byte) (s : State) : (answer p r s).fares = s.fares := by simp [answer]
@[simp] theorem answer_issue (p : Port) (r : List Byte) (s : State) : (answer p r s).issue = s.issue := by simp [answer]
@[simp] theorem answer_line (p : Port) (r : List Byte) (s : State) : (answer p r s).line = s.line := by simp [answer]
@[simp] theorem answer_platform (p : Port) (r : List Byte) (s : State) : (answer p r s).platform = s.platform := by simp [answer]
@[simp] theorem answer_screen (p : Port) (r : List Byte) (s : State) : (answer p r s).screen = s.screen := by simp [answer]
@[simp] theorem answer_wakes (p : Port) (r : List Byte) (s : State) : (answer p r s).wakes = s.wakes := by simp [answer]
@[simp] theorem answer_pending (p : Port) (r : List Byte) (s : State) : (answer p r s).pending = s.pending := by simp [answer]

@[simp] theorem selRises_calls (p : Port) (s : State) : (selRises p s).calls = s.calls := by simp [selRises]
@[simp] theorem selRises_board (p : Port) (s : State) : (selRises p s).board = s.board := by simp [selRises]
@[simp] theorem selRises_clock (p : Port) (s : State) : (selRises p s).clock = s.clock := by simp [selRises]
@[simp] theorem selRises_fares (p : Port) (s : State) : (selRises p s).fares = s.fares := by simp [selRises]
@[simp] theorem selRises_issue (p : Port) (s : State) : (selRises p s).issue = s.issue := by simp [selRises]
@[simp] theorem selRises_line (p : Port) (s : State) : (selRises p s).line = s.line := by simp [selRises]
@[simp] theorem selRises_platform (p : Port) (s : State) : (selRises p s).platform = s.platform := by simp [selRises]
@[simp] theorem selRises_screen (p : Port) (s : State) : (selRises p s).screen = s.screen := by simp [selRises]
@[simp] theorem selRises_wakes (p : Port) (s : State) : (selRises p s).wakes = s.wakes := by simp [selRises]
@[simp] theorem selRises_pending (p : Port) (s : State) : (selRises p s).pending = s.pending := by simp [selRises]

@[simp] theorem lock_calls (s : State) : (lock s).calls = s.calls := by unfold lock; dsimp only; split <;> simp
@[simp] theorem lock_board (s : State) : (lock s).board = s.board := by unfold lock; dsimp only; split <;> simp
@[simp] theorem lock_fares (s : State) : (lock s).fares = s.fares := by unfold lock; dsimp only; split <;> simp
@[simp] theorem lock_issue (s : State) : (lock s).issue = s.issue := by unfold lock; dsimp only; split <;> simp
@[simp] theorem lock_line (s : State) : (lock s).line = s.line := by unfold lock; dsimp only; split <;> simp
@[simp] theorem lock_platform (s : State) : (lock s).platform = s.platform := by unfold lock; dsimp only; split <;> simp
@[simp] theorem lock_screen (s : State) : (lock s).screen = s.screen := by unfold lock; dsimp only; split <;> simp
@[simp] theorem lock_wakes (s : State) : (lock s).wakes = s.wakes := by unfold lock; dsimp only; split <;> simp
@[simp] theorem lock_pending (s : State) : (lock s).pending = s.pending := by unfold lock; dsimp only; split <;> simp

@[simp] theorem raiseRollover_board (s : State) : (raiseRollover s).board = s.board := by simp [raiseRollover]
@[simp] theorem raiseRollover_fares (s : State) : (raiseRollover s).fares = s.fares := by simp [raiseRollover]
@[simp] theorem raiseRollover_screen (s : State) : (raiseRollover s).screen = s.screen := by simp [raiseRollover]
@[simp] theorem raiseRollover_sport (s : State) : (raiseRollover s).sport = s.sport := by simp [raiseRollover]
@[simp] theorem raiseRollover_wakes (s : State) : (raiseRollover s).wakes = s.wakes := by simp [raiseRollover]
@[simp] theorem raiseRollover_pending (s : State) : (raiseRollover s).pending = s.pending := by simp [raiseRollover]

@[simp] theorem beaconLink_calls (s : State) : (beaconLink s).calls = s.calls := by unfold beaconLink; split <;> first | rfl | simp | (split <;> simp)
@[simp] theorem beaconLink_board (s : State) : (beaconLink s).board = s.board := by unfold beaconLink; split <;> first | rfl | simp | (split <;> simp)
@[simp] theorem beaconLink_clock (s : State) : (beaconLink s).clock = s.clock := by unfold beaconLink; split <;> first | rfl | simp | (split <;> simp)
@[simp] theorem beaconLink_fares (s : State) : (beaconLink s).fares = s.fares := by unfold beaconLink; split <;> first | rfl | simp | (split <;> simp)
@[simp] theorem beaconLink_issue (s : State) : (beaconLink s).issue = s.issue := by unfold beaconLink; split <;> first | rfl | simp | (split <;> simp)
@[simp] theorem beaconLink_platform (s : State) : (beaconLink s).platform = s.platform := by unfold beaconLink; split <;> first | rfl | simp | (split <;> simp)
@[simp] theorem beaconLink_screen (s : State) : (beaconLink s).screen = s.screen := by unfold beaconLink; split <;> first | rfl | simp | (split <;> simp)
@[simp] theorem beaconLink_sport (s : State) : (beaconLink s).sport = s.sport := by unfold beaconLink; split <;> first | rfl | simp | (split <;> simp)
@[simp] theorem beaconLink_wakes (s : State) : (beaconLink s).wakes = s.wakes := by unfold beaconLink; split <;> first | rfl | simp | (split <;> simp)
@[simp] theorem beaconLink_pending (s : State) : (beaconLink s).pending = s.pending := by unfold beaconLink; split <;> first | rfl | simp | (split <;> simp)

@[simp] theorem storeCondition_calls (b : BeaconFields) (s : State) : (storeCondition b s).calls = s.calls := by unfold storeCondition; split <;> simp
@[simp] theorem storeCondition_clock (b : BeaconFields) (s : State) : (storeCondition b s).clock = s.clock := by unfold storeCondition; split <;> simp
@[simp] theorem storeCondition_fares (b : BeaconFields) (s : State) : (storeCondition b s).fares = s.fares := by unfold storeCondition; split <;> simp
@[simp] theorem storeCondition_issue (b : BeaconFields) (s : State) : (storeCondition b s).issue = s.issue := by unfold storeCondition; split <;> simp
@[simp] theorem storeCondition_platform (b : BeaconFields) (s : State) : (storeCondition b s).platform = s.platform := by unfold storeCondition; split <;> simp
@[simp] theorem storeCondition_pending (b : BeaconFields) (s : State) : (storeCondition b s).pending = s.pending := by unfold storeCondition; split <;> simp

@[simp] theorem reportCommit_board (n : Option Nat) (s : State) : (reportCommit n s).board = s.board := by unfold reportCommit; split <;> simp
@[simp] theorem reportCommit_clock (n : Option Nat) (s : State) : (reportCommit n s).clock = s.clock := by unfold reportCommit; split <;> simp
@[simp] theorem reportCommit_fares (n : Option Nat) (s : State) : (reportCommit n s).fares = s.fares := by unfold reportCommit; split <;> simp
@[simp] theorem reportCommit_issue (n : Option Nat) (s : State) : (reportCommit n s).issue = s.issue := by unfold reportCommit; split <;> simp
@[simp] theorem reportCommit_platform (n : Option Nat) (s : State) : (reportCommit n s).platform = s.platform := by unfold reportCommit; split <;> simp
@[simp] theorem reportCommit_screen (n : Option Nat) (s : State) : (reportCommit n s).screen = s.screen := by unfold reportCommit; split <;> simp
@[simp] theorem reportCommit_vport (n : Option Nat) (s : State) : (reportCommit n s).vport = s.vport := by unfold reportCommit; split <;> simp
@[simp] theorem reportCommit_sport (n : Option Nat) (s : State) : (reportCommit n s).sport = s.sport := by unfold reportCommit; split <;> simp
@[simp] theorem reportCommit_wakes (n : Option Nat) (s : State) : (reportCommit n s).wakes = s.wakes := by unfold reportCommit; split <;> simp
@[simp] theorem reportCommit_pending (n : Option Nat) (s : State) : (reportCommit n s).pending = s.pending := by unfold reportCommit; split <;> simp

@[simp] theorem nearFullTest_calls (s : State) : (nearFullTest s).calls = s.calls := by unfold nearFullTest; split <;> simp
@[simp] theorem nearFullTest_board (s : State) : (nearFullTest s).board = s.board := by unfold nearFullTest; split <;> simp
@[simp] theorem nearFullTest_clock (s : State) : (nearFullTest s).clock = s.clock := by unfold nearFullTest; split <;> simp
@[simp] theorem nearFullTest_fares (s : State) : (nearFullTest s).fares = s.fares := by unfold nearFullTest; split <;> simp
@[simp] theorem nearFullTest_issue (s : State) : (nearFullTest s).issue = s.issue := by unfold nearFullTest; split <;> simp
@[simp] theorem nearFullTest_line (s : State) : (nearFullTest s).line = s.line := by unfold nearFullTest; split <;> simp
@[simp] theorem nearFullTest_platform (s : State) : (nearFullTest s).platform = s.platform := by unfold nearFullTest; split <;> simp
@[simp] theorem nearFullTest_screen (s : State) : (nearFullTest s).screen = s.screen := by unfold nearFullTest; split <;> simp
@[simp] theorem nearFullTest_sport (s : State) : (nearFullTest s).sport = s.sport := by unfold nearFullTest; split <;> simp
@[simp] theorem nearFullTest_wakes (s : State) : (nearFullTest s).wakes = s.wakes := by unfold nearFullTest; split <;> simp
@[simp] theorem nearFullTest_pending (s : State) : (nearFullTest s).pending = s.pending := by unfold nearFullTest; split <;> simp

@[simp] theorem faultLink_calls (s : State) : (faultLink s).calls = s.calls := by unfold faultLink; split <;> first | rfl | (split <;> simp)
@[simp] theorem faultLink_board (s : State) : (faultLink s).board = s.board := by unfold faultLink; split <;> first | rfl | (split <;> simp)
@[simp] theorem faultLink_clock (s : State) : (faultLink s).clock = s.clock := by unfold faultLink; split <;> first | rfl | (split <;> simp)
@[simp] theorem faultLink_fares (s : State) : (faultLink s).fares = s.fares := by unfold faultLink; split <;> first | rfl | (split <;> simp)
@[simp] theorem faultLink_issue (s : State) : (faultLink s).issue = s.issue := by unfold faultLink; split <;> first | rfl | (split <;> simp)
@[simp] theorem faultLink_platform (s : State) : (faultLink s).platform = s.platform := by unfold faultLink; split <;> first | rfl | (split <;> simp)
@[simp] theorem faultLink_screen (s : State) : (faultLink s).screen = s.screen := by unfold faultLink; split <;> first | rfl | (split <;> simp)
@[simp] theorem faultLink_sport (s : State) : (faultLink s).sport = s.sport := by unfold faultLink; split <;> first | rfl | (split <;> simp)
@[simp] theorem faultLink_wakes (s : State) : (faultLink s).wakes = s.wakes := by unfold faultLink; split <;> first | rfl | (split <;> simp)
@[simp] theorem faultLink_pending (s : State) : (faultLink s).pending = s.pending := by unfold faultLink; split <;> first | rfl | (split <;> simp)

@[simp] theorem becomeLit_calls (s : State) : (becomeLit s).calls = s.calls := by simp [becomeLit]
@[simp] theorem becomeLit_board (s : State) : (becomeLit s).board = s.board := by simp [becomeLit]
@[simp] theorem becomeLit_clock (s : State) : (becomeLit s).clock = s.clock := by simp [becomeLit]
@[simp] theorem becomeLit_fares (s : State) : (becomeLit s).fares = s.fares := by simp [becomeLit]
@[simp] theorem becomeLit_issue (s : State) : (becomeLit s).issue = s.issue := by simp [becomeLit]
@[simp] theorem becomeLit_line (s : State) : (becomeLit s).line = s.line := by simp [becomeLit]
@[simp] theorem becomeLit_platform (s : State) : (becomeLit s).platform = s.platform := by simp [becomeLit]
@[simp] theorem becomeLit_vport (s : State) : (becomeLit s).vport = s.vport := by simp [becomeLit]
@[simp] theorem becomeLit_pending (s : State) : (becomeLit s).pending = s.pending := by simp [becomeLit]

@[simp] theorem endBlind_clock (s : State) : (endBlind s).clock = s.clock := by unfold endBlind; dsimp only; split <;> simp
@[simp] theorem endBlind_fares (s : State) : (endBlind s).fares = s.fares := by unfold endBlind; dsimp only; split <;> simp
@[simp] theorem endBlind_pending (s : State) : (endBlind s).pending = s.pending := by unfold endBlind; dsimp only; split <;> simp

@[simp] theorem onMalformed_calls (k : DownKind) (s : State) : (onMalformed k s).calls = s.calls := by unfold onMalformed; split <;> simp
@[simp] theorem onMalformed_board (k : DownKind) (s : State) : (onMalformed k s).board = s.board := by unfold onMalformed; split <;> simp
@[simp] theorem onMalformed_clock (k : DownKind) (s : State) : (onMalformed k s).clock = s.clock := by unfold onMalformed; split <;> simp
@[simp] theorem onMalformed_fares (k : DownKind) (s : State) : (onMalformed k s).fares = s.fares := by unfold onMalformed; split <;> simp
@[simp] theorem onMalformed_issue (k : DownKind) (s : State) : (onMalformed k s).issue = s.issue := by unfold onMalformed; split <;> simp
@[simp] theorem onMalformed_platform (k : DownKind) (s : State) : (onMalformed k s).platform = s.platform := by unfold onMalformed; split <;> simp
@[simp] theorem onMalformed_screen (k : DownKind) (s : State) : (onMalformed k s).screen = s.screen := by unfold onMalformed; split <;> simp
@[simp] theorem onMalformed_vport (k : DownKind) (s : State) : (onMalformed k s).vport = s.vport := by unfold onMalformed; split <;> simp
@[simp] theorem onMalformed_sport (k : DownKind) (s : State) : (onMalformed k s).sport = s.sport := by unfold onMalformed; split <;> simp
@[simp] theorem onMalformed_wakes (k : DownKind) (s : State) : (onMalformed k s).wakes = s.wakes := by unfold onMalformed; split <;> simp
@[simp] theorem onMalformed_pending (k : DownKind) (s : State) : (onMalformed k s).pending = s.pending := by unfold onMalformed; split <;> simp

end Sys2Proof.Machine
end

