-- ==== Sys2Proof/Laws/Operations.lean ====
section
/-! SUPPORT. What the shared operations do, each said once: sorting, banks, the queues, transactions octet by octet and whole, DOUT,
BRIGHT, LINE_UP, and messages. -/

namespace Sys2Proof.Machine

/-! ## Numbers -/

theorem clamp_zero (top n : Nat) : clamp 0 top n = min n top := by simp [clamp]

theorem clamp_range {lo hi : Nat} (n : Nat) (h : lo ≤ hi) : lo ≤ clamp lo hi n ∧ clamp lo hi n ≤ hi := by
  simp only [clamp]
  omega

theorem clampInt_range {lo hi : Int} (n : Int) (h : lo ≤ hi) : lo ≤ clampInt lo hi n ∧ clampInt lo hi n ≤ hi := by
  simp only [clampInt]
  omega

theorem satSucc_le (top n : Nat) : satSucc top n ≤ top := by
  simp only [satSucc]
  omega

theorem satSucc_of_le {top n : Nat} (h : n ≤ top) : satSucc top n = if n < top then n + 1 else top := by
  simp only [satSucc]
  split <;> omega

theorem TimeOfDay.ofTicks_eq (n : Nat) : TimeOfDay.ofTicks n = { sec := n / 16 % 86400, tick := n % 16 } := by
  simp only [TimeOfDay.ofTicks, Config.dayTicks]
  congr 1
  omega

theorem TimeOfDay.ofTicks_inRange (n : Nat) : (TimeOfDay.ofTicks n).InRange := by
  rw [TimeOfDay.ofTicks_eq]
  simp only [TimeOfDay.InRange, Config.lastSecond]
  omega

/-! ## Sorting -/

section Sorting

variable {α : Type} (le : α → α → Bool)

theorem insertBy_perm (a : α) (l : List α) : (insertBy le a l).Perm (a :: l) := by
  induction l with
  | nil => exact List.Perm.refl _
  | cons b l ih =>
    simp only [insertBy]
    split
    · exact List.Perm.refl _
    · exact (ih.cons b).trans (List.Perm.swap a b l)

theorem sortBy_perm (l : List α) : (sortBy le l).Perm l := by
  induction l with
  | nil => exact List.Perm.refl _
  | cons a l ih => exact (insertBy_perm le a _).trans (ih.cons a)

theorem mem_sortBy {x : α} {l : List α} : x ∈ sortBy le l ↔ x ∈ l := (sortBy_perm le l).mem_iff

theorem insertBy_pairwise (trans : ∀ a b c, le a b = true → le b c = true → le a c = true)
    (total : ∀ a b, le a b = true ∨ le b a = true) (a : α) (l : List α) (h : l.Pairwise fun x y => le x y = true) :
    (insertBy le a l).Pairwise fun x y => le x y = true := by
  induction l with
  | nil => exact List.pairwise_singleton _ _
  | cons b l ih =>
    rw [List.pairwise_cons] at h
    simp only [insertBy]
    split
    · rename_i hab
      refine List.pairwise_cons.2 ⟨fun y hy => ?_, List.pairwise_cons.2 h⟩
      rcases List.mem_cons.1 hy with rfl | hy
      · exact hab
      · exact trans _ _ _ hab (h.1 y hy)
    · rename_i hab
      refine List.pairwise_cons.2 ⟨fun y hy => ?_, ih h.2⟩
      rcases List.mem_cons.1 ((insertBy_perm le a l).mem_iff.1 hy) with rfl | hy
      · exact (total y b).resolve_left hab
      · exact h.1 y hy

/-- A sorted list is in order, for an order that is transitive and total. -/
theorem sortBy_pairwise (trans : ∀ a b c, le a b = true → le b c = true → le a c = true)
    (total : ∀ a b, le a b = true ∨ le b a = true) (l : List α) : (sortBy le l).Pairwise fun x y => le x y = true := by
  induction l with
  | nil => exact List.Pairwise.nil
  | cons a l ih => exact insertBy_pairwise le trans total a _ ih

end Sorting

theorem timeThenService_trans (key : Call → Option Nat) (a b c : Call) :
    timeThenService key a b = true → timeThenService key b c = true → timeThenService key a c = true := by
  unfold timeThenService
  cases key a <;> cases key b <;> cases key c <;> simp <;> omega

theorem timeThenService_total (key : Call → Option Nat) (a b : Call) :
    timeThenService key a b = true ∨ timeThenService key b a = true := by
  unfold timeThenService
  cases key a <;> cases key b <;> simp <;> omega

theorem nearer_trans (start : Nat) (a b c : Call) (h : nearer start a b = true) (g : nearer start b c = true) :
    nearer start a c = true := by
  simp only [nearer, Bool.or_eq_true, Bool.and_eq_true, decide_eq_true_eq] at *
  omega

theorem nearer_total (start : Nat) (a b : Call) : nearer start a b = true ∨ nearer start b a = true := by
  simp only [nearer, Bool.or_eq_true, Bool.and_eq_true, decide_eq_true_eq]
  omega

/-! ## Banks -/

/-- In a sorted bank a record is the one its service number finds. -/
theorem bankFind_mem {bank : List Call} (sorted : bank.Pairwise fun c d => c.service < d.service) {c : Call} (h : c ∈ bank) :
    bankFind c.service bank = some c := by
  induction bank with
  | nil => cases h
  | cons d ds ih =>
    rw [List.pairwise_cons] at sorted
    rcases List.mem_cons.1 h with rfl | h
    · simp [bankFind]
    · have hlt := sorted.1 c h
      have hne : d.service ≠ c.service := by omega
      simpa [bankFind, hne] using ih sorted.2 h

theorem bankFind_some {bank : List Call} {n : Nat} {c : Call} (h : bankFind n bank = some c) : c ∈ bank ∧ c.service = n :=
  ⟨List.mem_of_find?_eq_some h, by simpa using List.find?_some h⟩

theorem bankFind_none {bank : List Call} {n : Nat} : bankFind n bank = none ↔ ∀ c ∈ bank, c.service ≠ n := by
  simp [bankFind]

/-- An operation on the call of one service number, in a sorted bank that holds it, changes that record only. -/
theorem map_one {bank : List Call} (sorted : bank.Pairwise fun c d => c.service < d.service) {c : Call} (h : c ∈ bank)
    (f : Call → Call) :
    (bank.map fun d => if d.service = c.service then f d else d) = bank.map fun d => if d.service = c.service then f c else d := by
  refine List.map_congr_left fun d hd => ?_
  split
  · rename_i he
    have hc := bankFind_mem sorted h
    have hd := bankFind_mem sorted hd
    rw [he, hc] at hd
    cases hd
    rfl
  · rfl

theorem mem_bankPut {bank : List Call} (sorted : bank.Pairwise fun c d => c.service < d.service) (c x : Call) :
    x ∈ bankPut c bank ↔ x = c ∨ (x ∈ bank ∧ x.service ≠ c.service) := by
  induction bank with
  | nil => simp [bankPut]
  | cons d ds ih =>
    rw [List.pairwise_cons] at sorted
    have above : ∀ y ∈ ds, d.service < y.service := sorted.1
    simp only [bankPut]
    split
    · rename_i hlt
      have hall : ∀ y ∈ d :: ds, y.service ≠ c.service := by
        intro y hy
        rcases List.mem_cons.1 hy with rfl | hy
        · omega
        · have := above y hy
          omega
      rw [List.mem_cons]
      exact ⟨fun h => h.imp id fun h => ⟨h, hall x h⟩, fun h => h.imp id fun h => h.1⟩
    · split
      · rename_i he
        rw [List.mem_cons, List.mem_cons]
        constructor
        · rintro (h | h)
          · exact Or.inl h
          · have := above x h
            exact Or.inr ⟨Or.inr h, by omega⟩
        · rintro (h | ⟨rfl | h, hne⟩)
          · exact Or.inl h
          · exact absurd he.symm hne
          · exact Or.inr h
      · rename_i hne
        rw [List.mem_cons, ih sorted.2, List.mem_cons]
        constructor
        · rintro (rfl | h | h)
          · exact Or.inr ⟨Or.inl rfl, fun h => hne h.symm⟩
          · exact Or.inl h
          · exact Or.inr ⟨Or.inr h.1, h.2⟩
        · rintro (h | ⟨rfl | h, hx⟩)
          · exact Or.inr (Or.inl h)
          · exact Or.inl rfl
          · exact Or.inr (Or.inr ⟨h, hx⟩)

theorem bankPut_sorted {bank : List Call} (sorted : bank.Pairwise fun c d => c.service < d.service) (c : Call) :
    (bankPut c bank).Pairwise fun x y => x.service < y.service := by
  induction bank with
  | nil => exact List.pairwise_singleton _ _
  | cons d ds ih =>
    have all := sorted
    rw [List.pairwise_cons] at sorted
    simp only [bankPut]
    split
    · rename_i hlt
      refine List.pairwise_cons.2 ⟨fun y hy => ?_, all⟩
      rcases List.mem_cons.1 hy with rfl | hy
      · exact hlt
      · have := sorted.1 y hy
        omega
    · split
      · rename_i he
        refine List.pairwise_cons.2 ⟨fun y hy => ?_, sorted.2⟩
        have := sorted.1 y hy
        omega
      · rename_i hlt hne
        refine List.pairwise_cons.2 ⟨fun y hy => ?_, ih sorted.2⟩
        rcases (mem_bankPut sorted.2 c y).1 hy with rfl | hy
        · omega
        · exact sorted.1 y hy.1

theorem bankPut_length (c : Call) (bank : List Call) : (bankPut c bank).length ≤ bank.length + 1 := by
  induction bank with
  | nil => simp [bankPut]
  | cons d ds ih =>
    simp only [bankPut]
    split
    · simp
    · split
      · simp
      · simpa using ih

/-- Replacing a record keeps the size of the bank. -/
theorem bankPut_length_of_mem {bank : List Call} (sorted : bank.Pairwise fun c d => c.service < d.service) {c d : Call} (h : d ∈ bank)
    (he : d.service = c.service) : (bankPut c bank).length = bank.length := by
  induction bank with
  | nil => cases h
  | cons e es ih =>
    rw [List.pairwise_cons] at sorted
    simp only [bankPut]
    rcases List.mem_cons.1 h with rfl | h
    · simp [he]
    · have hlt := sorted.1 d h
      have h1 : ¬ c.service < e.service := by omega
      have h2 : ¬ c.service = e.service := by omega
      simp [h1, h2, ih sorted.2 h]

/-- The zone count of a destination after one has been put in. -/
theorem zoneOf_putDest (e : Nat × Nat) (l : List (Nat × Nat)) (c : Nat) :
    zoneOf (putDest e l) c = if c = e.1 then some e.2 else zoneOf l c := by
  induction l with
  | nil =>
    simp only [putDest, zoneOf, List.find?]
    by_cases h : c = e.1 <;> simp [h, eq_comm]
  | cons q l ih =>
    simp only [putDest]
    split
    · by_cases h : c = e.1
      · simp [zoneOf, h]
      · have hn : e.1 ≠ c := fun x => h x.symm
        simp [zoneOf, h, hn]
    · split
      · by_cases h : c = e.1
        · simp [zoneOf, h]
        · have hn : e.1 ≠ c := fun x => h x.symm
          have hq : q.1 ≠ c := by omega
          simp [zoneOf, *]
          intro hx
          omega
      · unfold zoneOf at *
        simp only [List.find?_cons]
        by_cases hq : q.1 = c
        · have : c ≠ e.1 := by omega
          simp [hq, this]
        · simp [hq, ih]

/-! ## The outbound queues -/

theorem Item.isStopFor_iff (n : Nat) (i : Item) : i.isStopFor n = true ↔ i.stopOf = some n := by
  cases i <;> simp [Item.isStopFor, Item.stopOf]

theorem Item.isStop_iff (i : Item) : i.isStop = true ↔ i.stopOf ≠ none := by
  cases i <;> simp [Item.isStop, Item.stopOf]

theorem Item.isStatus_iff (i : Item) : i.isStatus = true ↔ i = .status := by
  cases i <;> simp [Item.isStatus]

theorem Line.statusQueued_iff (l : Line) : l.statusQueued = true ↔ Item.status ∈ l.urgent ∨ Item.status ∈ l.routine := by
  simp [Line.statusQueued, List.any_eq_true, Item.isStatus_iff]

/-- All an offer to a queue can do (R131). -/
theorem Line.enqueue_cases (k : AccessClass) (i : Item) (l : Line) :
    (k = .urgent ∧ l.urgent.length < 16 ∧ l.enqueue k i = { l with urgent := l.urgent ++ [i] }) ∨
    (k = .routine ∧ l.routine.length < 32 ∧ l.enqueue k i = { l with routine := l.routine ++ [i] }) ∨
    (l.hasRoom k = false ∧ l.enqueue k i = { l with discards := satSucc Config.countTop l.discards }) := by
  cases k
  · by_cases h : l.urgent.length < 16
    · exact Or.inl ⟨rfl, h, by simp [Line.enqueue, Line.hasRoom, Config.urgentSize, h]⟩
    · exact Or.inr (Or.inr (by simp [Line.enqueue, Line.hasRoom, Config.urgentSize, h]))
  · by_cases h : l.routine.length < 32
    · exact Or.inr (Or.inl ⟨rfl, h, by simp [Line.enqueue, Line.hasRoom, Config.routineSize, h]⟩)
    · exact Or.inr (Or.inr (by simp [Line.enqueue, Line.hasRoom, Config.routineSize, h]))

/-- The oldest item that is no STOP_REQUEST is the one dropped (R132). -/
theorem dropOldestOther_eq (front : List Item) (j : Item) (back : List Item) (h : ∀ x ∈ front, x.stopOf ≠ none)
    (hj : j.stopOf = none) : dropOldestOther (front ++ j :: back) = front ++ back := by
  induction front with
  | nil =>
    have : ¬ j.isStop = true := by rw [Item.isStop_iff]; simpa using hj
    simp [dropOldestOther, this]
  | cons a l ih =>
    have ha : a.isStop = true := (Item.isStop_iff a).2 (h a (by simp))
    simpa [dropOldestOther, ha] using ih fun x hx => h x (by simp [hx])

/-- All an offer of a STOP_REQUEST can do (R132). -/
theorem Line.offerStop_cases (i : Item) (l : Line) :
    (l.urgent.length < 16 ∧ l.offerStop i = some { l with urgent := l.urgent ++ [i] }) ∨
    (16 ≤ l.urgent.length ∧ l.urgent.all Item.isStop = true ∧ l.offerStop i = none) ∨
    (16 ≤ l.urgent.length ∧ l.urgent.all Item.isStop = false ∧ l.offerStop i = some { l with
      urgent := dropOldestOther l.urgent ++ [i]
      tx := if l.urgent.head?.any Item.isStop then l.tx else headRemoved l.tx
      discards := satSucc Config.countTop l.discards }) := by
  by_cases h : l.urgent.length < 16
  · exact Or.inl ⟨h, by simp [Line.offerStop, Config.urgentSize, h]⟩
  · by_cases g : l.urgent.all Item.isStop = true
    · exact Or.inr (Or.inl ⟨by omega, g, by simp only [Line.offerStop, Config.urgentSize, h, if_false, g, if_true]⟩)
    · exact Or.inr (Or.inr ⟨by omega, by simpa using g, by
        simp only [Line.offerStop, Config.urgentSize, h, if_false, g]; rfl⟩)

/-! ## Ports and transactions -/

@[simp] theorem portOf_setPort (s : State) (port : Port) (p : PortState) : portOf (setPort s port p) port = p := by
  cases port <;> rfl

@[simp] theorem setPort_setPort (s : State) (port : Port) (p q : PortState) :
    setPort (setPort s port p) port q = setPort s port q := by cases port <;> rfl

theorem setPort_portOf (s : State) (port : Port) : setPort s port (portOf s port) = s := by cases port <;> rfl

theorem respond_requestTaken (s : State) (port : Port) (r : Response) :
    respond port r (requestTaken port s) = answeredWith port r s := by
  simp only [respond, requestTaken, portOf_setPort, setPort_setPort, answeredWith]
  rfl

/-- Octets of a request are kept in order, up to 62 in all (R187). -/
theorem PortState.shiftIn_request (bs : List Byte) (p : PortState) (hf : p.framing = .request) (hl : p.octets.length ≤ 62) :
    p.shiftIn bs = { p with octets := (p.octets ++ bs).take 62 } := by
  induction bs generalizing p with
  | nil => simp [shiftIn, List.take_of_length_le hl]
  | cons b bs ih =>
    simp only [shiftIn, List.foldl_cons] at ih ⊢
    by_cases h : p.octets.length < 62
    · rw [show p.octetIn b = { p with octets := p.octets ++ [b] } by simp [octetIn, hf, h]]
      refine (ih { p with octets := p.octets ++ [b] } hf (by simp; omega)).trans ?_
      simp
    · have he : p.octets.length = 62 := by omega
      rw [show p.octetIn b = p by simp [octetIn, hf, h], ih p hf hl]
      simp [he]

/-- In COLLECTION and in DISCARD the octets shifted in change nothing (R187). -/
theorem PortState.shiftIn_other (bs : List Byte) (p : PortState) (hf : p.framing = .collection ∨ p.framing = .discard) :
    p.shiftIn bs = p := by
  induction bs with
  | nil => rfl
  | cons b bs ih =>
    have : p.octetIn b = p := by rcases hf with h | h <;> simp [octetIn, h]
    rw [shiftIn, List.foldl_cons, this]
    exact ih

/-- The framing and the octets of a transaction that has begun with an octet (R187). -/
theorem PortState.shiftIn_opened (b : Byte) (bs : List Byte) (p : PortState) (hf : p.framing ≠ .discard) :
    p.selFalls.shiftIn (b :: bs) = { p with
      selLow := true
      framing := if b = collectionCode then .collection else .request
      octets := if b = collectionCode then [] else (b :: bs).take 62 } := by
  have h : p.selFalls = { p with selLow := true, framing := .idle, octets := [] } := by simp [selFalls, hf]
  rw [h, shiftIn, List.foldl_cons]
  by_cases hb : b = collectionCode
  · simp only [octetIn, hb, if_true]
    exact shiftIn_other bs _ (Or.inl rfl)
  · simp only [octetIn, hb, if_false]
    exact shiftIn_request bs _ rfl (by simp)

theorem selRises_setPort (s : State) (port : Port) (p : PortState) (h : p.held = (portOf s port).held)
    (hl : listening s port = true) :
    selRises port (setPort s port p) = setPort s port { p with selLow := false, framing := .idle, octets := [] } := by
  have hl' : listening (setPort s port p) port = true := by
    cases port <;> simpa [listening, powered, h] using hl
  simp only [selRises, portOf_setPort, setPort_setPort, hl', if_true]

/-- A transaction that is taken is carried out on the octets kept, on the state with the port idle (R187). -/
theorem onTransaction_taken {s : State} {port : Port} (h : takesTransaction s port) (b : Byte) (bs : List Byte)
    (take : List Byte → State → State) :
    onTransaction port (b :: bs) take s
      = take (if b = collectionCode then [] else (b :: bs).take 62) (requestTaken port s) := by
  obtain ⟨h1, h2⟩ := h
  have e := PortState.shiftIn_opened b bs (portOf s port) h2
  have r := selRises_setPort s port ((portOf s port).selFalls.shiftIn (b :: bs)) (by rw [e]) h1
  simp only [onTransaction, h1, if_true]
  rw [r, e]
  by_cases hb : b = collectionCode <;> simp only [hb, if_true, if_false] <;> rfl

/-- A transaction that is not taken is the rise of SEL alone (R187, R196, R198). -/
theorem onTransaction_not_taken {s : State} {port : Port} (h : ¬ takesTransaction s port) (octets : List Byte)
    (take : List Byte → State → State) : onTransaction port octets take s = selRises port s := by
  by_cases h1 : listening s port = true
  · have h2 : (portOf s port).framing = .discard := by
      by_cases g : (portOf s port).framing = .discard
      · exact g
      · exact absurd ⟨h1, g⟩ h
    have e : (portOf s port).selFalls.shiftIn octets = { portOf s port with selLow := true } := by
      rw [PortState.selFalls, if_pos h2]
      exact PortState.shiftIn_other octets _ (Or.inr h2)
    have r := selRises_setPort s port ((portOf s port).selFalls.shiftIn octets) (by rw [e]) h1
    simp only [onTransaction, h1, if_true]
    rw [r, e]
    simp only [h2, selRises, h1, if_true]
  · simp only [onTransaction, h1]
    rfl

/-- The first two form checks on the octets kept are those on all the octets of the request (R187, R190). -/
theorem keptPayload_eq (code : Byte) (req : Request) :
    keptPayload ((code :: req.octets).take 62) (1 + req.octets.length) req.partialOctet = framed req := by
  cases ho : req.octets with
  | nil => simp [keptPayload, framed, ho]
  | cons len payload =>
    simp only [framed, ho, List.take_succ_cons, keptPayload, List.length_cons]
    by_cases hl : payload.length ≤ 60
    · rw [List.take_of_length_le hl]
      have : (1 + (payload.length + 1) = 2 + len.toNat) ↔ payload.length = len.toNat := by omega
      simp [this]
    · have h1 : ¬ (len.toNat ≤ 60 ∧ 1 + (payload.length + 1) = 2 + len.toNat) := by omega
      have h2 : ¬ (len.toNat ≤ 60 ∧ payload.length = len.toNat) := by omega
      simp only [Bool.and_eq_true, decide_eq_true_eq, Bool.not_eq_true', and_assoc, h1, h2, and_false, if_false]

theorem Command.code_ne_collection (cmd : Command) : cmd.code ≠ collectionCode := by cases cmd <;> decide

/-- A request transaction that is taken: the form checks on its octets, and then the command's own rule (R188, R190). -/
theorem onRequest_taken {α : Type} {cmd : Command} {read : List Byte → Option α} {carryOut : α → State → State} {port : Port}
    {req : Request} {s : State} (h : takesTransaction s port) :
    onRequest cmd read carryOut port req s = match framed req with
      | none => answeredWith port { status := .badRequest, payload := [] } s
      | some payload =>
        if !cmd.ofPort port then answeredWith port { status := .wrongPort, payload := [] } s
        else match read payload with
          | none => answeredWith port { status := .badRequest, payload := [] } s
          | some fields => carryOut fields (requestTaken port s) := by
  simp only [onRequest, onTransaction_taken h, cmd.code_ne_collection, if_false, keptPayload_eq, refuse, respond_requestTaken]
  all_goals
    cases framed req with
    | none => rfl
    | some payload =>
      dsimp only
      split
      · rfl
      · cases read payload <;> rfl

/-- A request that passes the form checks is carried out on the fields read (R190, R191). -/
theorem onRequest_carried {α : Type} {cmd : Command} {read : List Byte → Option α} {carryOut : α → State → State} {port : Port}
    {req : Request} {s : State} {p : List Byte} {v : α} (h : takesTransaction s port) (hf : wellFramed cmd port req p)
    (hr : read p = some v) : onRequest cmd read carryOut port req s = carryOut v (requestTaken port s) := by
  obtain ⟨h1, h2⟩ := hf
  simp only [onRequest_taken h, h1, h2, hr, Bool.not_true, Bool.false_eq_true, if_false]

/-- A request whose fields the command refuses is answered BAD_REQUEST (R191). -/
theorem onRequest_malformed {α : Type} {cmd : Command} {read : List Byte → Option α} {carryOut : α → State → State} {port : Port}
    {req : Request} {s : State} {p : List Byte} (h : takesTransaction s port) (hf : wellFramed cmd port req p)
    (hr : read p = none) :
    onRequest cmd read carryOut port req s = answeredWith port { status := .badRequest, payload := [] } s := by
  obtain ⟨h1, h2⟩ := hf
  simp only [onRequest_taken h, h1, h2, hr, Bool.not_true, Bool.false_eq_true, if_false]

/-! ## DOUT -/

/-- In REQUEST DOUT shifts out all ones (R187). -/
theorem PortState.shiftOut_request (bs : List Byte) (n : Nat) (p : PortState) (hf : p.framing = .request) :
    p.shiftOut n bs = List.replicate bs.length (some 0xFF#8) := by
  induction bs generalizing n p with
  | nil => rfl
  | cons b bs ih =>
    have h : (p.octetIn b).framing = .request := by
      simp only [octetIn, hf]
      split <;> simp [hf]
    simp [shiftOut, octetOut, hf, ih (n + 1) _ h, List.replicate_succ]

/-- DOUT shifts out all ones during a whole request transaction (R187). -/
theorem PortState.shiftOut_of_request (b : Byte) (bs : List Byte) (p : PortState) (hf : p.framing ≠ .discard)
    (hb : b ≠ collectionCode) : p.selFalls.shiftOut 0 (b :: bs) = List.replicate (bs.length + 1) (some 0xFF#8) := by
  have h : p.selFalls.framing = .idle := by simp [selFalls, hf]
  have g : (p.selFalls.octetIn b).framing = .request := by simp [octetIn, h, hb]
  simp [shiftOut, octetOut, h, shiftOut_request bs 1 _ g, List.replicate_succ]

/-- In COLLECTION DOUT shifts out the response from its `n - 1`-th octet on, and all ones after it (R189). -/
theorem PortState.shiftOut_collection (bs : List Byte) (n : Nat) (p : PortState) (hf : p.framing = .collection) (hn : 1 ≤ n) :
    p.shiftOut n bs = (List.range bs.length).map fun k => some ((responseOctets p.buffer).getD (n - 1 + k) 0xFF#8) := by
  induction bs generalizing n with
  | nil => rfl
  | cons b bs ih =>
    have h : p.octetIn b = p := by simp [octetIn, hf]
    have e : ∀ k, n + 1 - 1 + k = n - 1 + (k + 1) := by omega
    simp only [shiftOut, octetOut, hf, h, ih (n + 1) (by omega), e]
    rw [List.length_cons, List.range_succ_eq_map, List.map_cons, List.map_map]
    rfl

theorem shiftedOut_eq (buffer : Option Response) (n : Nat) :
    shiftedOut buffer n = (List.range n).map fun k => if k = 0 then 0xFF#8 else (responseOctets buffer).getD (k - 1) 0xFF#8 := by
  refine List.ext_getElem (by simp only [shiftedOut]; simp; omega) fun k h1 h2 => ?_
  simp only [List.length_map, List.length_range] at h2
  simp only [List.getElem_map, List.getElem_range, shiftedOut]
  by_cases hk : k < (0xFF#8 :: responseOctets buffer).length
  · rw [List.getElem_append_left (by rw [List.length_take]; omega), List.getElem_take]
    cases k with
    | zero => rfl
    | succ k =>
      have hk' : k < (responseOctets buffer).length := by simpa using hk
      simp [List.getD, hk']
  · rw [List.getElem_append_right (by simp at hk ⊢; omega), List.getElem_replicate]
    have h0 : k ≠ 0 := by rintro rfl; simp at hk
    have hk' : (responseOctets buffer).length ≤ k - 1 := by simp at hk; omega
    simp [h0, List.getD, hk']

/-- The octets DOUT shifts out in a collection transaction are those the model records (R187, R189, log 17). -/
theorem PortState.shiftOut_of_collection (n : Nat) (p : PortState) (hf : p.framing ≠ .discard) :
    p.selFalls.shiftOut 0 (collectionOctets n) = (shiftedOut p.buffer n).map some := by
  cases n with
  | zero => simp [collectionOctets, shiftOut, shiftedOut]
  | succ n =>
    have h : p.selFalls = { p with selLow := true, framing := .idle, octets := [] } := by simp [selFalls, hf]
    have o : collectionOctets (n + 1) = collectionCode :: List.replicate n 0#8 := by
      simp [collectionOctets]
    rw [o, shiftOut, shiftedOut_eq, List.range_succ_eq_map, h]
    simp only [octetIn, if_true, octetOut]
    rw [shiftOut_collection _ 1 _ rfl (by omega)]
    simp [List.map_map, Function.comp_def]

/-! ## BRIGHT -/

/-- In LIT a period of BRIGHT is high for as many steps as the level at its start, and low for the rest (R183). -/
theorem brightPeriod_lit (c : Screen) (level : Nat) (h : c.supply = .lit) (hl : level ≤ 63) :
    brightPeriod c level = List.replicate level true ++ List.replicate (63 - level) false := by
  refine List.ext_getElem (by simp [brightPeriod]; omega) fun k h1 h2 => ?_
  simp only [brightPeriod, List.getElem_map, List.getElem_range, bright, h, List.getElem_append, List.length_replicate,
    List.getElem_replicate]
  by_cases hk : k < level <;> simp [hk]

/-- BRIGHT is low throughout DARK, POWERING, the settling stages and FAULT (R183). -/
theorem brightPeriod_off (c : Screen) (level : Nat) (h : c.supply ≠ .lit) : brightPeriod c level = List.replicate 63 false := by
  rw [brightPeriod, List.eq_replicate_iff]
  simp [bright, h]

/-! ## Downward messages -/

/-- A message that is taken and well formed is carried out once its frame is done (R127, R135). -/
theorem onMessage_carried {α : Type} {k : DownKind} {read : List Byte → Option α} {carryOut : α → State → State} {addr : Byte}
    {p : List Byte} {s : State} {v : α} (h : takesMessage s k addr p) (hr : read p = some v) :
    onMessage k read carryOut addr p s = carryOut v (frameDone s) := by
  simp only [onMessage, h.1, h.2, hr, if_true]

/-- A message that is taken and malformed (R136). -/
theorem onMessage_malformed {α : Type} {k : DownKind} {read : List Byte → Option α} {carryOut : α → State → State} {addr : Byte}
    {p : List Byte} {s : State} (h : takesMessage s k addr p) (hr : read p = none) :
    onMessage k read carryOut addr p s = onMalformed k (frameDone s) := by
  simp only [onMessage, h.1, h.2, hr, if_true]

/-- All that a message can do: the cases of R127, R135 and R136. -/
theorem onMessage_cases {α : Type} (k : DownKind) (read : List Byte → Option α) (carryOut : α → State → State) (addr : Byte)
    (p : List Byte) (s : State) :
    onMessage k read carryOut addr p s = s ∨ onMessage k read carryOut addr p s = frameDone s ∨
      (takesMessage s k addr p ∧ read p = none ∧ onMessage k read carryOut addr p s = onMalformed k (frameDone s)) ∨
      (takesMessage s k addr p ∧ ∃ v, read p = some v ∧ onMessage k read carryOut addr p s = carryOut v (frameDone s)) := by
  by_cases h : heard s addr k.code p = true
  · by_cases t : taken s k addr = true
    · cases hr : read p with
      | none => exact Or.inr (Or.inr (Or.inl ⟨⟨h, t⟩, rfl, onMessage_malformed ⟨h, t⟩ hr⟩))
      | some v => exact Or.inr (Or.inr (Or.inr ⟨⟨h, t⟩, v, rfl, onMessage_carried ⟨h, t⟩ hr⟩))
    · exact Or.inr (Or.inl (by simp [onMessage, h, t]))
  · exact Or.inl (by simp [onMessage, h])

/-! ## Steps -/

/-- All a step can do: idle, or carry out the command at the front (95). -/
theorem step_cases {s t : State} (h : step s = .next t) :
    (s.pending = [] ∧ t = s) ∨ ∃ c rest, s.pending = c :: rest ∧ exec c { s with pending := rest } = .next t := by
  cases hp : s.pending with
  | nil =>
    refine Or.inl ⟨rfl, ?_⟩
    simp only [step, hp] at h
    cases h
    rfl
  | cons c rest => exact Or.inr ⟨c, rest, rfl, by simpa [step, hp] using h⟩

/-- An invariant that does not speak of the queue, kept by every command, is kept by every step. -/
theorem step_keeps {P : State → Prop} (queue : ∀ (s : State) (q : List Instr), P s → P { s with pending := q })
    (kept : ∀ (c : Instr) (s t : State), exec c s = .next t → P s → P t) {s t : State} (h : step s = .next t) (hs : P s) : P t := by
  rcases step_cases h with ⟨-, rfl⟩ | ⟨c, rest, -, he⟩
  · exact hs
  · exact kept c _ t he (queue s rest hs)

/-! ## LINE_UP (R108) -/

@[simp] theorem Line.dropFrame_up (l : Line) : l.dropFrame.up = l.up := rfl
@[simp] theorem symbolToDrive_none : symbolToDrive none = .mark := rfl

/-- A frame begins with a space, its start symbol (R110). -/
@[simp] theorem symbolToDrive_startFrame (src : TxSource) (s : State) : symbolToDrive (some (startFrame src s)) = .space := rfl

/-- After a period the halt drives the next symbol of a frame whose symbol came back equal, and mark otherwise (R116, R117). -/
theorem symbolToDrive_echoFrame (e : Symbol) (f : TxFrame) : symbolToDrive (some (echoFrame e f))
    = if f.echo = .equal ∧ f.rest.head? = some e then f.rest.tail.headD .mark else .mark := by
  obtain ⟨_, _, _, rest, echo, _, _⟩ := f
  rcases echo with _ | _ | _ <;> rcases rest with _ | ⟨x, _ | ⟨y, rest⟩⟩ <;> cases e <;> try cases x
  all_goals simp [echoFrame, symbolToDrive]

end Sys2Proof.Machine
end

