-- ==== Sys2Proof/WellFormed.lean ====
section
/-! DEFINITION. Which commands the part can be given: the ranges of the operands that the manual states as the form
of a frame, a transaction or an identifier. The meanings are total: they do not assume well-formedness. -/

namespace Sys2Proof

/-- A downward frame: the address octet holds 0..15 and the payload at most 40 octets (R110). -/
def frameForm (addr : Byte) (payload : List Byte) : Bool :=
  addr.toNat ≤ 15 && payload.length ≤ 40

/-- Service numbers are 1..9,999 (R1). -/
def serviceForm (service : Nat) : Bool :=
  1 ≤ service && service ≤ 9999

/-- A request begins with a whole octet that is not the collection code A5H (R187). -/
def requestForm (req : Request) : Bool :=
  match req.octets with
  | [] => false
  | code :: _ => code != 0xA5#8

/-- The command can be given. -/
def Instr.wf : Instr → Bool
  | .frameDiscarded a _ p => frameForm a p
  | .beacon a p | .delay a p | .cancel a p | .reinstate a p | .restart a p | .admission a p
  | .stopAck a p | .saleAck a p | .serialGrant a p | .hold a p | .releaseMessage a p
  | .loadCall a p | .loadClear a p | .loadEnd a p | .loadFareDest a p | .loadFarePrice a p
  | .loadConcession a p | .loadParams a p | .setTime a p => frameForm a p
  | .stopAckTimeout n | .duePointReached n | .lapsePointReached n | .horizonEntryReached n
  | .displayEndReached n | .stalenessPointReached n | .wakeEntryReached n => serviceForm n
  | .collection _ clocked => 1 ≤ clocked
  | .unknownCommand _ req => requestForm req
  | .fullReset _ | .vbakLow | .vendingPortHold _ | .vendingPortReset _ | .signagePortHold _
  | .signagePortReset _ | .strapRead _ | .occAsserted | .occReleased | .buttonPress | .ambPulse
  | .crystalTick | .time _ _ | .calls _ _ | .quote _ _ | .commit _ _ | .releaseRequest _ _
  | .salesState _ _ | .notices _ _ | .board _ _ | .condition _ _ | .screen _ _ | .ready _ _
  | .quiet _ _ | .downwardFrameStart | .badFrame _ | .upwardFrameStart | .frameComplete
  | .contentionLoss | .lineFault | .thresholdReturn | .quoteLapse | .holdExpiry | .serialAskRepeat
  | .holdoverExpiry | .ackTimerExpiry | .joinTimerExpiry | .admissionTimeout | .silenceTimeout
  | .lostTimeout | .statusPeriod | .quoteDemandExpiry | .buttonDemandExpiry | .settleExpiry
  | .stopThresholdExpiry | .releaseTimerExpiry | .standingExpiry | .readyTimeout | .settlingExpiry
  | .idleDelayExpiry | .faultRetryExpiry | .ambientWindowEnd | .rollover | .symbolPeriodEnd _ _
  | .selRisesInDiscard _ => true

end Sys2Proof
end

