-- ==== Sys2Proof/Tests/Slice0.lean ====
section
/-! SUPPORT. Tests of the model on fixed values: the commands that cannot be given, and steps of the manual's worked examples,
each named by the example it is taken from. -/

namespace Sys2Proof.Tests

open Sys2Proof.Machine

-- One theorem at a time: each waits for the kernel to evaluate it.
set_option Elab.async false

/-! ## Well-formed commands: one ill-formed term for each check -/

theorem test_wf_address : (Instr.wf (.cancel 0x10#8 [0#8, 1#8])) = false := by decide
theorem test_wf_payload : (Instr.wf (.frameDiscarded 0#8 9#8 (List.replicate 41 0#8))) = false := by decide
theorem test_wf_frame : (Instr.wf (.loadParams 15#8 (List.replicate 40 0#8))) = true := by decide
theorem test_wf_service_zero : (Instr.wf (.duePointReached 0)) = false := by decide
theorem test_wf_service_high : (Instr.wf (.stopAckTimeout 10000)) = false := by decide
theorem test_wf_service : (Instr.wf (.wakeEntryReached 9999)) = true := by decide
theorem test_wf_collection : (Instr.wf (.collection .vending 0)) = false := by decide
theorem test_wf_request_empty : (Instr.wf (.unknownCommand .signage { octets := [], partialOctet := true })) = false := by
  decide
theorem test_wf_request_code :
    (Instr.wf (.unknownCommand .signage { octets := [0xA5#8], partialOctet := false })) = false := by decide

/-! ## Reset, queue and table words -/

theorem test_reset_is_cold_start : State.reset =
    (match exec (.fullReset { heldTicks := 0, straps := 0, occ := false, vselLow := false, sselLow := false })
        { State.reset with clock := { State.reset.clock with loss := true } } with
      | .next t => t
      | .fault f => nomatch f
      | .refused _ => { State.reset with pending := [.vbakLow] }) := by decide

theorem test_no_word_spells (nbits w : Nat) : decodeTableWord nbits w = none := rfl

theorem test_word_leaves_state (s : State) (nbits w : Nat) : s.withFetchWord nbits w = s := rfl

theorem test_step_takes_front : step { State.reset with pending := [.vbakLow, .ambPulse] }
    = .next { State.reset with
        pending := [.ambPulse]
        clock := { State.reset.clock with loss := true } } := rfl

/-! ## States for the tests -/

/-- The state a command leaves. -/
def after (c : Instr) (s : State) : State :=
  match exec c s with
  | .next t => t
  | .fault _ => s
  | .refused _ => s

/-- ADMITTED at address 5, LOCKED on day 812, with nothing queued. -/
def onLine (sec : Nat) : State := { State.reset with
  board := { State.reset.board with board := { State.reset.board.board with notSet := false } }
  clock := { State.reset.clock with
    time := { sec := sec, tick := 0 }, day := 812, setMarker := true, timeState := .locked, holdover := some 9600 }
  issue := { State.reset.issue with askTimer := none }
  line := { State.reset.line with
    link := .admitted, address := 5, routine := [], silenceTimer := some 480, statusTimer := some 4800 }
  vport := { State.reset.vport with notices := 0 } }

def scheduled (service dest : Nat) (kind : CallKind) (sa sd : Option Nat) (points : List (Nat × Nat)) : Scheduled :=
  { service := service
    dest := dest
    kind := kind
    sa := sa
    sd := sd
    md := 30
    served := [310, 455]
    points := points }

/-- The calls of the worked examples of chapters 01, 02 and 08. -/
def c2317 : Call := freshCall (scheduled 2317 310 .stops (some 61380) (some 61440) [(41, 90), (47, 240)])
def c2319 : Call := freshCall (scheduled 2319 204 .stops none (some 63000) [])
def c2321 : Call := freshCall (scheduled 2321 455 .request (some 62100) (some 62130) [])
def c2323 : Call := freshCall (scheduled 2323 188 .stops (some 68000) none [])
def c2405 : Call := freshCall (scheduled 2405 455 .request (some 43200) (some 43230) [])

def withCalls (cs : List Call) (s : State) : State := { s with calls := { s.calls with active := cs } }

/-- The fare table of the worked cases of chapter 04. -/
def fares : FareTable :=
  { dests := [(204, 6), (310, 3), (455, 1)]
    block := { zones := [180, 0, 460, 0, 0, 2000, 0, 0, 0, 0, 0, 0], ret := 180, off := 25, peakStart := 25200, peakEnd := 32400 }
    slots := [some { discount := 0, minimum := 0 }, none, some { discount := 34, minimum := 150 },
      some { discount := 50, minimum := 150 }, none, some { discount := 100, minimum := 0 }, none, none] }

/-- A journal of consecutive records, serials and all. -/
def journal (sequence serial n : Nat) : List Ticket := (List.range n).map fun k =>
  { sequence := sequence + k
    serial := serial + k
    day := 812
    issueTime := 60000
    service := none
    dest := 310
    kind := .single
    concession := 0
    fare := 460
    payment := 1 }

/-- A halt with fares and one block of serials, before the sale of chapter 05's example. -/
def selling (sec : Nat) : State := { withCalls [c2317, c2319, c2321] (onLine sec) with
  fares := fares
  issue := { Issue.reset with
    blocks := [{ first := 500001, next := 500151, count := 50 }], journal := journal 8415 500149 2, sequence := 8416 }
  line := { (onLine sec).line with cursor := some 8415, highestSent := 8414 } }

def req (payload : List Byte) : Request := { octets := BitVec.ofNat 8 payload.length :: payload, partialOctet := false }

/-- QUOTE DAY_RETURN to 310, concession 2, for 2317. -/
def quote2317 : List Byte := [0x01#8, 0x36#8, 0x02#8, 0x02#8, 0x09#8, 0x0D#8]

/-- The state in which that quote has been taken. -/
def quoted (sec : Nat) : State :=
  let sale : Sale :=
    { state := .quoted
      call := some 2317
      dest := 310
      kind := .dayReturn
      concession := 2
      fare := 410
      quoteTime := 61000
      lapse := 2880 }
  { selling sec with issue := { (selling sec).issue with sale := some sale } }

/-! ## Fares (worked cases of chapter 04) -/

def prices (f : PriceBlock → PriceBlock) : PriceBlock := f fares.block

theorem test_fare_day_return_concession :
    fareOf fares.block 3 .dayReturn { discount := 34, minimum := 150 } = 410 := by decide
theorem test_fare_return : fareOf fares.block 3 .ret { discount := 0, minimum := 0 } = 830 := by decide
theorem test_fare_half_way_rounds_up :
    fareOf (prices fun b => { b with zones := [0, 0, 465] }) 3 .single { discount := 0, minimum := 0 } = 470 := by decide
theorem test_fare_minimum : fareOf fares.block 1 .single { discount := 50, minimum := 150 } = 150 := by decide
theorem test_fare_free : fareOf fares.block 6 .ret { discount := 100, minimum := 0 } = 0 := by decide
theorem test_fare_percentage_floor :
    fareOf (prices fun b => { b with ret := 185 }) 6 .dayReturn { discount := 0, minimum := 0 } = 2760 := by decide
theorem test_fare_largest : fareOf (prices fun b => { b with zones := [20000], ret := 250 }) 1 .ret
    { discount := 0, minimum := 0 } = 50000 := by decide

/-! ## Expected times and the board (worked examples of chapter 02) -/

def delay2317 : List Byte := [0x09#8, 0x0D#8, 47#8, 0x01#8, 0xA4#8, 0x00#8, 0xEC#8, 0x68#8]

theorem test_delay_times : (bankFind 2317 (after (.delay 0#8 delay2317) (selling 60530)).calls.active).map
    (fun c => (c.ea, c.ed)) = some (some 61560, some 61590) := by decide +kernel
theorem test_delay_row : (after (.delay 0#8 delay2317) (selling 60530)).board.board.rows.head?.map
    (fun r => (r.service, r.schedMinute, r.expMinute, r.status, r.lateMinutes))
      = some (2317, 1024, 1026, .late, 2) := by decide +kernel

theorem test_board_at_60000 : (boardRowsOf Params.defaults .locked 60000 [c2317, c2319, c2321, c2323]).map
    (fun r => (r.service, r.expMinute, r.status, r.flags.byte))
      = [(2317, 1024, .onTime, 0x00#8), (2321, 1035, .onTime, 0x01#8), (2319, 1050, .onTime, 0x00#8)] := by decide +kernel
theorem test_board_horizon_entry :
    ((boardRowsOf Params.defaults .locked 60800 [c2317, c2319, c2321, c2323]).map fun r => r.service)
      = [2317, 2321, 2319, 2323] := by decide +kernel

theorem test_due_point : (bankFind 2405 (after (.duePointReached 2405)
    (withCalls [c2405] (onLine 43080))).calls.active).map (fun c => c.state) = some .due := by decide +kernel
theorem test_due_point_one_second_early : (after (.duePointReached 2405) (withCalls [c2405] (onLine 43079)))
    = withCalls [c2405] (onLine 43079) := by decide +kernel

/-! ## Stops (worked examples of chapters 01 and 08) -/

theorem test_button_wants_stop : (after .buttonPress (withCalls [c2405] (onLine 42000))).line.urgent
    = [.stopRequest 2405 (some .button) (some 42000)] := by decide +kernel
theorem test_button_late_at_cutoff : ((after .buttonPress (withCalls [c2405] (onLine 42900))).calls.active.map
    fun c => c.stop) = [.late] := by decide +kernel

/-- Two calls equally near, the earlier scheduled chosen (3101 before 3103). -/
def equalDistances : State :=
  let c3101 : Call := recompute { freshCall (scheduled 3101 310 .stops (some 49700) (some 49730) []) with
    notice := some { delay := 300, point := 1, report := 49000 } }
  let s := withCalls [c3101, freshCall (scheduled 3103 310 .stops (some 50200) (some 50230) [])] (onLine 50112)
  { s with platform := { s.platform with
      occ := true
      state := .occupied
      start := some { time := { sec := 50100, tick := 0 }, isSet := true }
      stopTimer := some 0
      standingTimer := some 9408 } }

theorem test_equal_distances : (attributed equalDistances).map (fun c => c.service) = some 3101 := by decide +kernel
theorem test_arrival_offered : (after .stopThresholdExpiry equalDistances).line.urgent
    = [.observation .arrival (some 3101) (some 50100)] := by decide +kernel

/-- A train runs through: the release persists before the stop threshold is decided. -/
def runsThrough (call : Option Call) : State :=
  let s := withCalls call.toList (onLine 69963)
  { s with platform := { s.platform with
      state := .occupied
      start := some { time := { sec := 69950, tick := 0 }, isSet := true }
      release := some { time := { sec := 69961, tick := 0 }, isSet := true }
      thresholdReached := true
      releaseTimer := some 0
      standingTimer := some 9000 } }

def c2411 : Call := freshCall (scheduled 2411 310 .request (some 70000) (some 70030) [])

theorem test_pass : ((after .releaseTimerExpiry (runsThrough (some c2411))).calls.active.map
    fun c => (c.state, c.passed, c.ad)) = [(.departed, true, some 69950)] := by decide +kernel
theorem test_reassertion_is_stop : (after .occAsserted (runsThrough (some c2411))).platform.matched = some 2411 := by
  decide +kernel

/-! ## Time base (worked examples of chapter 03) -/

/-- A halt whose receiver has recorded the first symbol of a beacon, at the local time given, just now. -/
def beaconAt (sec tick : Nat) : State :=
  let s := onLine sec
  { s with clock := { s.clock with
      time := { sec := sec, tick := tick }
      frameStart := some { localTime := { sec := sec, tick := tick }, crystal := 0, disturbed := false } } }

def beaconOf (sec : Nat) (tick : Byte) (day : Nat) : List Byte :=
  beBytes 3 sec ++ [tick] ++ beBytes 2 day ++ [0x00#8, 0x00#8]

theorem test_beacon_slew : (after (.beacon 0#8 (beaconOf 22195 8#8 812)) (beaconAt 22200 0)).clock.slew = 72 := by
  decide +kernel
theorem test_beacon_forward : (after (.beacon 0#8 (beaconOf 22512 0#8 812)) (beaconAt 22500 0)).clock.time
    = { sec := 22512, tick := 0 } := by decide +kernel
theorem test_beacon_disputed : (after (.beacon 0#8 (beaconOf 24000 0#8 812)) (beaconAt 22800 0)).clock.disputes = 1 := by
  decide +kernel
theorem test_beacon_clock_behind_midnight :
    (fun s : State => (s.clock.time.sec, s.clock.day))
      (after (.beacon 0#8 (beaconOf 5 0#8 813)) (beaconAt 86390 0)) = (5, 813#16) := by decide +kernel
theorem test_beacon_clock_ahead_midnight :
    (fun s : State => (s.clock.slew, s.clock.day))
      (after (.beacon 0#8 (beaconOf 86398 0#8 830)) (beaconAt 3 0)) = (80, 831#16) := by decide +kernel

theorem test_tick_wraps_and_rolls_over :
    (fun t : State => (t.clock.time, t.clock.day, t.line.tableReused, t.calls.active.map fun c => c.state))
      (after .crystalTick (withCalls [{ c2405 with state := .cancelled }]
        { onLine 86399 with clock := { (onLine 86399).clock with time := { sec := 86399, tick := 15 } } }))
      = ({ sec := 0, tick := 0 }, 813#16, true, [.scheduled]) := by decide +kernel

/-! ## The line (chapters 06, 07 and 11) -/

/-- The BEACON of chapter 11: 61,440 s and 4 ticks, day 812, DISRUPTED, text code 7. -/
def beaconOctets : List Byte := [0x00#8, 0x01#8, 0x08#8, 0x00#8, 0xF0#8, 0x00#8, 0x04#8, 0x03#8, 0x2C#8, 0x01#8, 0x07#8]

theorem test_beacon_frame : frameBody 0#8 DownKind.beacon.code (beaconOctets.drop 3) = beaconOctets := by decide
theorem test_beacon_fields : readBeacon (beaconOctets.drop 3)
    = some { time := { sec := 61440, tick := 4 }, day := 812, condition := .disrupted, textCode := 7 } := by decide

/-- Six marks, then the space of a start symbol: the frame begins whether or not DOWNWARD_FRAME_START is given (R111). -/
def sixMarks : State := (List.range 6).foldl (fun s _ => after (.symbolPeriodEnd .mark .mark) s) (onLine 60000)

theorem test_start_symbol : (fun s : State => (s.line.rx, s.clock.frameStart.map FrameStart.localTime))
    (after (.symbolPeriodEnd .space .mark) (after .downwardFrameStart sixMarks))
      = ({ marks := 0, phase := .receiving [] }, some { sec := 60000, tick := 0 }) := by decide +kernel
theorem test_start_symbol_at_period_end : (fun s : State => (s.line.rx, s.clock.frameStart.map FrameStart.localTime))
    (after .downwardFrameStart (after (.symbolPeriodEnd .space .mark) sixMarks))
      = ({ marks := 0, phase := .receiving [] }, some { sec := 60000, tick := 0 }) := by decide +kernel

/-- Halts 3 and 5 contend: halt 5 meets a space in the seventh symbol of its frame. -/
def contending : State :=
  let s := onLine 60000
  let u := after .upwardFrameStart { s with line := { s.line with idleCount := 6, urgent := [.holdGranted] } }
  (List.replicate 7 Symbol.space).foldl (fun t e => after (.symbolPeriodEnd .mark e) t) u

theorem test_contention_at_seventh_symbol : contending.line.tx.map (fun f => f.echo) = some .contention := by decide +kernel
theorem test_contention_counted : (fun s : State => (s.line.contentions, s.line.urgent, s.line.tx))
    (after .contentionLoss contending) = (1, [.holdGranted], none) := by decide +kernel

/-- The link is lost in the period of a frame's start symbol: LINE_UP stands to the end of the period, and is then mark
(R108, R119). -/
theorem test_line_up_stands_to_period_end :
    let s := onLine 60000
    let sent := after .upwardFrameStart { s with line := { s.line with idleCount := 6, urgent := [.holdGranted] } }
    let lost := after .silenceTimeout { sent with line := { sent.line with silenceTimer := some 0 } }
    (lineUp s, lineUp sent, lost.line.link, lost.line.tx, lineUp lost, lineUp (after (.symbolPeriodEnd .mark .space) lost))
      = (.mark, .space, .lost, none, .space, .mark) := by decide +kernel

/-- LINE_UP follows the frame one symbol to a period: six spaces, and the mark of halt 5's address in the seventh (R108). -/
theorem test_line_up_follows_frame :
    let s := onLine 60000
    let sent := after .upwardFrameStart { s with line := { s.line with idleCount := 6, urgent := [.holdGranted] } }
    let periods (n : Nat) := (List.replicate n Symbol.space).foldl (fun t e => after (.symbolPeriodEnd .mark e) t) sent
    ([0, 5, 6, 7].map fun n => lineUp (periods n)) = [.space, .space, .mark, .mark] := by decide +kernel

/-- A drain after a rewind: records 8,410 to 8,414, of which 8,412 was sent. -/
def drained : State :=
  let s := onLine 60000
  { s with
    issue := { s.issue with journal := journal 8410 1 5, sequence := 8414 }
    line := { s.line with cursor := some 8411, highestSent := 8412, saleAckTimer := some 1904 } }

theorem test_sale_ack : (fun s : State => (s.issue.journal.length, s.line.cursor, s.line.saleAckTimer))
    (after (.saleAck 5#8 (beBytes 4 8411)) drained) = (3, some 8412, some 1904) := by decide +kernel
theorem test_sale_ack_lowered : (fun s : State => (s.issue.journal.length, s.line.cursor, s.line.saleAckTimer))
    (after (.saleAck 5#8 (beBytes 4 8420)) drained) = (2, some 8413, none) := by decide +kernel

/-- A full urgent queue. -/
def fullUrgent : Line := { (onLine 60000).line with
  urgent := List.replicate 11 (.observation .pass none none) ++ [.holdEnded .expired]
    ++ [2405, 2411, 2417, 2421].map fun n => .stopRequest n (some .ticket) (some 59000) }

theorem test_full_queue_discards : (fun l : Line => (l.urgent.length, l.discards))
    (fullUrgent.enqueue .urgent (.observation .arrival (some 2431) none)) = (16, 1) := by decide
theorem test_full_queue_makes_room : (fullUrgent.offerStop (.stopRequest 2433 (some .ticket) (some 60000))).map
    (fun l => (l.urgent.length, (l.urgent.filterMap Item.stopOf).length, l.discards)) = some (16, 5, 1) := by decide

theorem test_params_clamped : (readParams (beBytes 2 700 ++ beBytes 2 60 ++ beBytes 2 120 ++ [250#8, 2#8, 15#8] ++ beBytes 2 1200
    ++ [12#8] ++ beBytes 2 1200 ++ [20#8] ++ beBytes 2 120
    ++ [8, 40, 30, 512, 600, 500, 40000].flatMap (beBytes 2) ++ [6#8, 10#8, 16#8, 24#8, 32#8, 42#8, 52#8, 63#8])).map
      (fun p => (p.salesMargin, p.requestMargin, p.boardHorizon, p.thresholds))
    = some (600, 120, 240, [8, 40, 40, 512, 600, 600, 40000]) := by decide +kernel

/-! ## Sales (worked examples of chapter 05) -/

theorem test_quote : (fun s : State => (s.issue.sale.map fun x => x.fare, s.vport.buffer))
    (after (.quote .vending (req quote2317)) (selling 61000))
      = (some 410, some { status := .ok, payload := [0x01#8, 0x9A#8, 0x00#8, 0xEE#8, 0x48#8, 0x00#8, 0xB4#8] }) := by
  decide +kernel
theorem test_quote_too_late : (after (.quote .vending (req quote2317)) (selling 61380)).vport.buffer
    = some { status := .tooLate, payload := [] } := by decide +kernel
theorem test_commit : (fun s : State => (s.issue.sequence, s.issue.blocks, s.issue.journal.map fun t => t.serial))
    (after (.commit .vending (req [1#8])) (quoted 61050))
      = (8417, [{ first := 500001, next := 500152, count := 49 }], [500149, 500150, 500151]) := by decide +kernel
theorem test_commit_low_water : (after (.commit .vending (req [1#8])) (quoted 61050)).line.routine = [.serialAsk 49] := by
  decide +kernel

theorem test_grant_overlap : (after (.serialGrant 5#8 (beBytes 3 500180 ++ beBytes 2 100)) (selling 61000)).line.routine
    = [.loadReply .serialGrant .overlap (some 500180)] := by decide +kernel
theorem test_grant_reissue : (after (.serialGrant 5#8 (beBytes 3 500130 ++ beBytes 2 20)) (selling 61000)).line.routine
    = [.loadReply .serialGrant .reissue (some 500130)] := by decide +kernel

/-! ## Ports and screens (chapters 09 to 11) -/

theorem test_collection_of_empty : (after (.collection .vending 4) (onLine 0)).vport.dout
    = [0xFF#8, 0x01#8, 0x00#8, 0xFF#8] := by decide
/-- DOUT is all ones through a request, and the response from the second octet of a collection (R187, R189). -/
theorem test_dout_of_request : (onLine 0).vport.shiftOut 0 [0x0C#8, 0x00#8, 0xFF#8]
    = [some 0xFF#8, some 0xFF#8, some 0xFF#8] := by decide
theorem test_dout_of_collection : (onLine 0).vport.shiftOut 0 [0xA5#8, 0x00#8, 0x00#8, 0x00#8]
    = [some 0xFF#8, some 0x01#8, some 0x00#8, some 0xFF#8] := by decide

/-- A hold with SEL low leaves a port without power IDLE, and puts a powered port in DISCARD (R187, R198). -/
theorem test_hold_without_power : (after (.signagePortHold true) (onLine 0)).sport.framing = .idle := by decide
theorem test_hold_with_power : (after (.vendingPortHold true) (onLine 0)).vport.framing = .discard := by decide

theorem test_wrong_port : (after (.board .vending (req [])) (onLine 0)).vport.buffer
    = some { status := .wrongPort, payload := [] } := by decide
theorem test_time : (after (.time .vending (req [])) (onLine 61440)).vport.buffer.map (fun r => r.payload)
    = some [0x00#8, 0xF0#8, 0x00#8, 0x00#8, 0x03#8, 0x2C#8, 0x01#8, 0x00#8] := by decide

/-- The chain LIT at the end of a light window with this count. -/
def window (count band : Nat) (candidate : Option (Nat × Nat)) : State :=
  let s := onLine 60000
  { s with screen := { s.screen with
      supply := .lit, sigpwr := true, lamp := true, bias := true, drive := true, trim := -2
      ambient := count, window := 0, band := band, candidate := candidate, level := 22 } }

/-- BRIGHT is high for the level's share of 63 steps, and held at either end (R183). -/
theorem test_bright : [0, 22, 63].map (brightPeriod (window 0 0 none).screen) = [List.replicate 63 false,
    List.replicate 22 true ++ List.replicate 41 false, List.replicate 63 true] := by decide

theorem test_band_adopted : (fun s : State => (s.screen.band, s.screen.candidate, s.screen.level))
    (after .ambientWindowEnd (window 700 3 (some (4, 2)))) = (4, none, 30) := by decide
theorem test_run_broken : (fun s : State => (s.screen.band, s.screen.candidate, s.screen.level))
    (after .ambientWindowEnd (window 100 3 (some (4, 2)))) = (3, some (2, 1), 22) := by decide

theorem test_ready_timeout : (fun s : State => (s.screen.supply, s.screen.sigpwr, s.screen.retryTimer, s.line.routine))
    (after .readyTimeout { onLine 60000 with screen := { (onLine 60000).screen with
      supply := .powering, sigpwr := true, readyTimer := some 0 } }) = (.fault, false, some 960, [.status]) := by decide

/-! ## Witnesses: states and operands that meet the hypotheses of the statements, clause by clause -/

theorem inRange_of {r : Scheduled} (h : (1 ≤ r.service ∧ r.service ≤ 9999) ∧ (1 ≤ r.dest ∧ r.dest ≤ 999) ∧
    (∀ t ∈ r.sa, t ≤ 86399) ∧ (∀ t ∈ r.sd, t ≤ 86399) ∧ r.timesOk = true ∧ r.md ≤ 600 ∧
    (r.served.length ≤ 6 ∧ r.served.Nodup ∧ ∀ d ∈ r.served, 1 ≤ d ∧ d ≤ 999) ∧
    (r.points.length ≤ 4 ∧ (r.points.map Prod.fst).Nodup ∧ ∀ q ∈ r.points, 1 ≤ q.1 ∧ q.1 ≤ 255 ∧ q.2 ≤ 900)) :
    r.InRange :=
  ⟨h.1, h.2.1, h.2.2.1, h.2.2.2.1, h.2.2.2.2.1, h.2.2.2.2.2.1, h.2.2.2.2.2.2.1, h.2.2.2.2.2.2.2⟩

theorem goodBank_nil : GoodBank [] := ⟨List.Pairwise.nil, by decide, by simp⟩

/-- A bank whose records differ only in service number. -/
theorem goodBank_of {bank : List Call} (r : Scheduled) (sorted : bank.Pairwise fun c d => c.service < d.service)
    (size : bank.length ≤ 96) (top : ∀ c ∈ bank, (1 ≤ c.service ∧ c.service ≤ 9999) ∧ c.toScheduled = { r with service := c.service })
    (h : r.InRange) : GoodBank bank := by
  refine ⟨sorted, size, fun c hc => ?_⟩
  obtain ⟨hs, he⟩ := top c hc
  rw [he]
  exact ⟨hs, h.dest, h.sa, h.sd, h.times, h.md, h.served, h.points⟩

theorem goodBank_one {c : Call} (h : c.toScheduled.InRange) : GoodBank [c] :=
  ⟨List.pairwise_singleton _ _, by simp [Config.bankSize], by simpa using h⟩

theorem inRange_2317 : c2317.toScheduled.InRange := inRange_of (by decide)
theorem inRange_2405 : c2405.toScheduled.InRange := inRange_of (by decide)
theorem inRange_2411 : c2411.toScheduled.InRange := inRange_of (by decide)

theorem goodBank_selling (sec : Nat) : GoodBank (selling sec).calls.active :=
  ⟨(by decide : [c2317, c2319, c2321].Pairwise fun c d => c.service < d.service),
    (by decide : [c2317, c2319, c2321].length ≤ Config.bankSize), by
    intro c hc
    have : c = c2317 ∨ c = c2319 ∨ c = c2321 := by simpa [selling, withCalls] using hc
    rcases this with rfl | rfl | rfl <;> exact inRange_of (by decide)⟩

/-- Ninety-six calls. -/
def fullBank : List Call := (List.range 96).map fun k => freshCall (scheduled (k + 1) 310 .request (some 43200) (some 43230) [])

theorem goodBank_full : GoodBank fullBank :=
  goodBank_of (scheduled 1 310 .request (some 43200) (some 43230) []) (by decide +kernel) (by decide +kernel)
    (by decide +kernel) (inRange_of (by decide))

def held (s : State) : State := { s with issue := { s.issue with hold := .held, limitTimer := some 9600 } }
def asked (s : State) : State := { s with issue := { s.issue with hold := .asked } }

/-! ### Queue, frames and resets -/

theorem witness_StepTakesFront : State.reset.pending = [] := rfl

theorem witness_ReceiverReadsFrame :
    let r : Receiver := { marks := 6, phase := .bad .check }
    (List.replicate 40 (0xFF#8)).length ≤ 40 ∧ ([] : List Byte).length ≤ 40 ∧ r.marks = 6 ∧ r.phase.inFrame = false ∧
      (crcBytes (frameBody 0#8 1#8 [])).length = 2 ∧ [0x00#8, 0x00#8].length = 2 := by decide

theorem witness_ColdStart : ({ State.reset with clock := { Clock.reset with loss := true } } : State).clock.loss = true := rfl

theorem witness_PinsAndPortResets :
    let s : State := { onLine 0 with vport := { PortState.reset with framing := .discard } }
    ((portOf s .vending).framing = .discard ∧ listening s .vending = true) ∧ (portOf s .signage).framing ≠ .discard ∧
      ((quoted 61050).issue.sale.isSome = true ∧ (asked (quoted 61050)).issue.hold = .asked) ∧
      (s.issue.sale = none ∧ s.issue.hold ≠ .asked) ∧ State.reset.line.link = .dark ∧ (15#4 ≠ 0 ∧ 1#4 ≠ 0) ∧
      s.line.link ≠ .dark ∧ (s.screen.sigpwr = false ∧ (window 0 0 none).screen.sigpwr = true) ∧
      ((quoted 61050).issue.hold ≠ .asked ∧
        (after (.vendingPortHold true) s).vport.framing = .discard ∧
        listening (after (.vendingPortHold true) s) .vending = false) ∧
      (let u : State := { s with sport := { s.sport with framing := .discard } };
        (portOf u .signage).framing = .discard ∧ listening u .signage = false) := by decide +kernel

/-! ### Fares -/

theorem fareInv_fares : FareInv fares :=
  ⟨by decide, by decide, by decide, by decide, by decide, by decide, by decide, by decide⟩

theorem witness_FareStages : FareInv fares ∧ (1 ≤ 1 ∧ 12 ≤ 12) ∧ 100 ≤ 100 ∧ 2000 ≤ 2000 :=
  ⟨fareInv_fares, by decide⟩

/-- A list of 48 destinations. -/
def fullFares : State := held { onLine 0 with fares := { fares with dests := (List.range 48).map fun k => (k + 1, 1) } }

theorem witness_FareLoads :
    takesMessage fullFares .loadFareDest 5#8 [0x00#8, 0x31#8, 0x00#8] ∧
    takesMessage fullFares .loadFareDest 5#8 [0x00#8, 0x30#8, 0x0C#8] ∧
    takesMessage fullFares .loadFareDest 5#8 [0x00#8, 0x31#8, 0x01#8] ∧
    fullFares.issue.hold = .held ∧ (onLine 0).issue.hold ≠ .held ∧
    ((zoneOf fullFares.fares.dests 48).isSome = true ∧ zoneOf fullFares.fares.dests 49 = none ∧
      48 ≤ fullFares.fares.dests.length ∧ fares.dests.length < 48) ∧
    takesMessage fullFares .loadFarePrice 5#8 (List.replicate 32 0xFF#8) ∧
    takesMessage fullFares .loadConcession 5#8 [0x07#8, 0x64#8, 0x07#8, 0xD0#8] ∧
    takesMessage fullFares .loadConcession 5#8 [0x00#8, 0xFF#8, 0x00#8, 0x00#8] ∧ fullFares.fares.slots.length = 8 := by
  unfold takesMessage
  decide +kernel

/-! ### Platform monitor -/

def onPlatform (st : Occupancy) (release : Bool) (timers : Nat) (s : State) : State :=
  let at_ : Stamp := { time := { sec := 43200, tick := 5 }, isSet := true }
  { s with platform := { s.platform with
      occ := !release
      state := st
      start := if st = .clear ∨ st = .blind then none else some at_
      release := if release then some at_ else none
      releaseTimer := if release then some timers else none
      settleTimer := if st = .settling then some timers else none
      stopTimer := if st = .settling ∨ st = .occupied then some timers else none
      standingTimer := if st = .clear ∨ st = .blind then none else some timers } }

theorem witness_OccupancyFilters :
    let s := onLine 43200
    s.platform.state = .clear ∧ (onPlatform .settling false 0 s).platform.settleTimer = some 0 ∧
      (onPlatform .settling false 0 s).platform.state = .settling ∧
      (onPlatform .occupied false 0 s).platform.releaseTimer = none ∧
      ((onPlatform .occupied true 0 s).platform.releaseTimer ≠ none ∧ (onPlatform .occupied true 0 s).platform.stopTimer = some 0 ∧
        (onPlatform .occupied true 0 s).platform.thresholdReached = false) ∧
      ((onPlatform .stopped false 0 s).platform.standingTimer = some 0 ∧ (onPlatform .stopped true 0 s).platform.state = .stopped) ∧
      ((onPlatform .occupied false 0 s).platform.standingTimer = some 0 ∧
        (onPlatform .occupied false 0 s).platform.state ≠ .stopped) := by decide

theorem witness_AttributionChoice :
    let s (start : Nat) : State := { equalDistances with platform := { equalDistances.platform with
      start := some { time := { sec := start, tick := 0 }, isSet := true } } }
    let w := equalDistances.line.params.attribution
    (s (50000 + w)).platform.start = some { time := { sec := 50000 + w, tick := 0 }, isSet := true } ∧
      (s 1000).platform.dayCrossed = false ∧ attributed (s 1000) = none ∧
      (∃ c ∈ (s (50000 + w)).calls.active, c.state = .scheduled ∧ approach c = some 50000 ∧ 50000 + w ≤ 50000 + w) ∧
      (∃ c ∈ (s (50200 - w)).calls.active, c.state = .scheduled ∧ approach c = some 50200 ∧ 50200 ≤ 50200 - w + w) := by
  decide +kernel

theorem witness_StopDecided :
    (equalDistances.platform.state = .occupied ∧ equalDistances.platform.stopTimer = some 0 ∧
      equalDistances.platform.releaseTimer = none ∧ (attributed equalDistances).isSome = true) ∧
    ((runsThrough none).platform.state = .occupied ∧ (runsThrough none).platform.thresholdReached = true ∧
      (runsThrough none).platform.releaseTimer ≠ none ∧ attributed (runsThrough none) = none) := by decide +kernel

theorem witness_LeavingSaleable :
    let x := (quoted 61050).issue.sale
    (x.map fun y => (y.state, y.call)) = some (.quoted, some 2317) ∧ (x.map fun y => decide (y.call ≠ some 2319)) = some true ∧
      (selling 61050).issue.sale = none := by decide

def c2411Arrived : Call := { c2411 with state := .arrived, aa := some 69950, ea := some 69950 }

theorem witness_ReleasePersists :
    ((runsThrough (some c2411)).platform.releaseTimer = some 0 ∧ (attributed (runsThrough (some c2411))).isSome = true ∧
      attributed (runsThrough none) = none) ∧
    (let s : State := onPlatform .stopped true 0 (withCalls [c2411Arrived] (onLine 70000));
      GoodBank s.calls.active ∧ s.platform.releaseTimer = some 0 ∧ s.platform.release.isSome = true ∧
      ({ s.platform with matched := some 2411 } : Platform).matched = some 2411 ∧
      s.platform.matched = none ∧ (∃ c ∈ s.calls.active, c.service = 2411 ∧ c.state = .arrived) ∧
      ∀ c ∈ s.calls.active, c.service = 2412 → c.state ≠ .arrived) ∧
    (let s : State := onPlatform .blind true 0 (onLine 70000);
      s.platform.state = .blind ∧ s.platform.releaseTimer = some 0 ∧ s.platform.heldOver = none ∧
      ({ s.platform with heldOver := some 2411 } : Platform).heldOver = some 2411) :=
  ⟨by decide +kernel, ⟨goodBank_one inRange_2411, by decide⟩, by decide⟩

theorem witness_ButtonPress :
    let s (sec : Nat) := withCalls [c2405] (onLine sec)
    GoodBank (s 0).calls.active ∧ (s 0).platform.lastPress = none ∧
      (∀ t ∈ some 0, t + 16 ≤ 16) ∧ (s 43201).clock.timeState ≠ .unset ∧
      (c2405 ∈ (s 0).calls.active ∧ c2405.kind = .request ∧ c2405.state = .scheduled ∧ c2405.stop = .none ∧
        approach c2405 = some 43200 ∧ 39600 + 3600 = 43200 ∧ 42899 + 300 < 43200 ∧ ¬ 42900 + 300 < 43200) ∧
      (∀ c ∈ (s 0).calls.active, ∀ a ∈ approach c, ¬ (43201 ≤ a)) :=
  ⟨goodBank_one inRange_2405, by decide⟩

theorem witness_AmbientLight : (window 0 0 none).screen.window = 0 ∧ (window 65535 7 (some (6, 2))).screen.window = 0 ∧
    (0 ≤ 63 ∧ 63 ≤ 63 ∧ (window 0 0 none).screen.supply = .lit ∧ (onLine 0).screen.supply ≠ .lit) := by
  decide

/-! ### Time base -/

theorem inRange_time {t : TimeOfDay} (h : t.sec ≤ 86399 ∧ t.tick ≤ 15) : t.InRange := h

theorem witness_CrystalTickCounts :
    (onLine 86399).clock.time.InRange ∧ (onLine 86399).clock.time.tick ≠ 15 ∧
      (({ sec := 86399, tick := 15 } : TimeOfDay).InRange ∧ State.reset.clock.timeState = .unset) :=
  ⟨⟨by decide, by decide⟩, by decide, ⟨by decide, by decide⟩, by decide⟩

theorem witness_SlewIsSpent : ({ (onLine 22200).clock with slew := 72 } : Clock).slewHalf = false ∧
    (onLine 22200).clock.time.InRange := ⟨by decide, by decide, by decide⟩

/-- The last tick of a day, with a REQUEST call WANTED and its STOP_REQUEST queued, a sale QUOTED for it, a train standing and a
NEXT bank in the given state. -/
def dayEnd (n : BankState) : State :=
  let s := withCalls [{ c2405 with stop := .wanted, origin := some .ticket, wantedAt := some 42000 }] (onLine 86399)
  { s with
    clock := { s.clock with time := { sec := 86399, tick := 15 } }
    calls := { s.calls with nextState := n, next := if n = .empty then [] else [c2317] }
    line := { s.line with urgent := [.stopRequest 2405 (some .ticket) (some 42000)] }
    issue := { s.issue with sale := (quoted 86399).issue.sale.map fun x => { x with call := some 2405 } }
    platform := { s.platform with state := .occupied } }

theorem bankInv_dayEnd (n : BankState) : BankInv (dayEnd n) := by
  refine ⟨goodBank_one inRange_2405, ?_, ?_⟩
  · cases n
    · exact goodBank_nil
    · exact goodBank_one inRange_2317
    · exact goodBank_one inRange_2317
  · cases n <;> simp [dayEnd]

theorem stopInv_dayEnd (n : BankState) : StopInv (dayEnd n) := by
  refine ⟨?_, ?_, ?_, ?_, ?_⟩
  · intro c hc
    have h : c = { c2405 with stop := .wanted, origin := some .ticket, wantedAt := some 42000 } := by
      simpa [dayEnd, withCalls] using hc
    subst h
    exact ⟨by decide, by decide, by decide, by decide⟩
  · cases n <;> decide
  · cases n <;> decide
  · cases n <;> decide
  · simp [dayEnd, withCalls, onLine, State.reset, Line.reset]

theorem witness_RolloverAtDayEnd :
    (BankInv (dayEnd .complete) ∧ StopInv (dayEnd .complete)) ∧ (BankInv (dayEnd .loading) ∧ StopInv (dayEnd .loading)) ∧
    (dayEnd .complete).clock.timeState ≠ .unset ∧ (dayEnd .complete).clock.time = { sec := 86399, tick := 15 } ∧
    (dayEnd .complete).clock.slew = 0 ∧
    ((dayEnd .loading).issue.sale.map fun x => (x.state, x.call)) = some (.quoted, some 2405) ∧
    ((dayEnd .loading).line.urgent.head?.bind Item.stopOf) = some 2405 ∧ (dayEnd .loading).platform.state = .occupied :=
  ⟨⟨bankInv_dayEnd _, stopInv_dayEnd _⟩, ⟨bankInv_dayEnd _, stopInv_dayEnd _⟩, by decide⟩

/-- A train stands at the platform, its call in ARRIVED. -/
def standing : State := withCalls [c2411Arrived] (onLine 70000)

theorem bankInv_standing : BankInv standing := ⟨goodBank_one (inRange_of (by decide)), goodBank_nil, fun _ => rfl⟩

theorem stopInv_standing : StopInv standing := by
  refine ⟨?_, by decide, by decide, by decide, fun f h => nomatch h⟩
  intro c hc
  have h : c = c2411Arrived := by simpa [standing, withCalls] using hc
  subst h
  exact ⟨by decide, by decide, by decide, by decide⟩

theorem witness_WarmStartKeeps :
    (BankInv standing ∧ StopInv standing ∧ standing.clock.loss = false ∧ standing.clock.setMarker = true ∧
      standing.clock.owed = false ∧ standing.calls.active.any (fun c => c.state = .arrived) = true ∧
      (standing.clock.time.ticks + 0) / 1382400 = 0) ∧
    (BankInv (dayEnd .complete) ∧ StopInv (dayEnd .complete) ∧ (dayEnd .complete).clock.loss = false ∧
      ((dayEnd .complete).clock.time.ticks + 1) / 1382400 = 1) ∧
    (BankInv (dayEnd .loading) ∧ StopInv (dayEnd .loading) ∧ (dayEnd .loading).clock.setMarker = true ∧
      (dayEnd .loading).clock.time.ticks / 1382400 = 0) ∧
    ({ standing with clock := { standing.clock with owed := true } } : State).clock.owed = true ∧
    ((selling 0).issue.blocks.map Block.count).sum = 50 ∧ (standing.issue.blocks.map Block.count).sum = 0 :=
  ⟨⟨bankInv_standing, stopInv_standing, by decide⟩, ⟨bankInv_dayEnd _, stopInv_dayEnd _, by decide⟩,
    ⟨bankInv_dayEnd _, stopInv_dayEnd _, by decide⟩, by decide⟩

/-- A beacon of 21,600 s, day 812, and states that take it. -/
def beaconB : BeaconFields := { time := { sec := 21600, tick := 0 }, day := 812, condition := .normal, textCode := 0 }
def unsetAt (sec : Nat) : State := { beaconAt sec 0 with clock := { (beaconAt sec 0).clock with
  timeState := .unset, setMarker := false, holdover := none } }

theorem witness_TimeIsSet :
    (takesMessage (unsetAt 1234) .beacon 0#8 (beaconOf 21600 0#8 812) ∧ readBeacon (beaconOf 21600 0#8 812) = some beaconB ∧
      (unsetAt 1234).clock.timeState = .unset ∧
      (unsetAt 1234).clock.frameStart = some { localTime := { sec := 1234, tick := 0 }, crystal := 0, disturbed := false } ∧
      (unsetAt 1234).line.link = .admitted ∧ beaconB.condition = (unsetAt 1234).line.condition ∧
      beaconB.textCode = (unsetAt 1234).line.textCode) ∧
    (takesMessage (held (onLine 0)) .setTime 5#8 [0x01#8, 0x51#8, 0x7F#8, 0x00#8, 0x00#8] ∧
      (held (onLine 0)).issue.hold = .held ∧ (onLine 0).issue.hold ≠ .held) := by
  unfold takesMessage
  decide +kernel

/-- The offset of a beacon of 21,600 s measured at a local time. -/
theorem witness_BeaconMeasured :
    (takesMessage (beaconAt 20699 15) .beacon 0#8 (beaconOf 21600 0#8 812) ∧ readBeacon (beaconOf 21600 0#8 812) = some beaconB ∧
      (beaconAt 20699 15).clock.timeState ≠ .unset ∧
      (beaconAt 20699 15).clock.frameStart
        = some { localTime := { sec := 20699, tick := 15 }, crystal := 0, disturbed := false } ∧
      (beaconAt 20699 15).line.link = .admitted ∧ beaconB.condition = (beaconAt 20699 15).line.condition ∧
      beaconB.textCode = (beaconAt 20699 15).line.textCode) ∧
    ((beaconB.time.ticks : Int) - ({ sec := 20699, tick := 15 } : TimeOfDay).ticks = 14401 + 1382400 * 0) ∧
    ((beaconB.time.ticks : Int) - ({ sec := 22500, tick := 1 } : TimeOfDay).ticks = -14401 + 1382400 * 0) ∧
    ((beaconB.time.ticks : Int) - ({ sec := 22500, tick := 0 } : TimeOfDay).ticks = -14400 + 1382400 * 0) ∧
    ((beaconB.time.ticks : Int) - ({ sec := 21599, tick := 15 } : TimeOfDay).ticks = 1 + 1382400 * 0) ∧
    ((({ sec := 86398, tick := 0 } : TimeOfDay).ticks : Int) - ({ sec := 3, tick := 0 } : TimeOfDay).ticks
      = -80 + 1382400 * 1) := by
  unfold takesMessage
  decide +kernel

theorem witness_ForwardStep :
    (takesMessage (beaconAt 86390 0) .beacon 0#8 (beaconOf 5 0#8 813) ∧
      readBeacon (beaconOf 5 0#8 813)
        = some { time := { sec := 5, tick := 0 }, day := 813, condition := .normal, textCode := 0 } ∧
      (beaconAt 86390 0).clock.timeState ≠ .unset ∧ (beaconAt 86390 0).clock.time.sec ≤ 86399 ∧
      (beaconAt 86390 0).clock.frameStart
        = some { localTime := { sec := 86390, tick := 0 }, crystal := 0, disturbed := false } ∧
      (beaconAt 86390 0).line.link = .admitted) ∧
    ((({ sec := 5, tick := 0 } : TimeOfDay).ticks : Int) - ({ sec := 86390, tick := 0 } : TimeOfDay).ticks
      = (240 : Nat) + 1382400 * (-1)) ∧
    1382400 ≤ (beaconAt 86390 0).clock.time.ticks + 240 ∧
    ((beaconB.time.ticks : Int) - ({ sec := 20700, tick := 0 } : TimeOfDay).ticks = (14400 : Nat) + 1382400 * 0) ∧
    ((beaconB.time.ticks : Int) - ({ sec := 21599, tick := 14 } : TimeOfDay).ticks = (2 : Nat) + 1382400 * 0) ∧
    (beaconAt 20700 0).clock.time.ticks + 14400 < 1382400 := by
  unfold takesMessage
  decide +kernel

theorem witness_StaleBeacon :
    let f : FrameStart := { localTime := { sec := 100, tick := 0 }, crystal := 0, disturbed := true }
    let s : State := { onLine 21600 with clock := { (onLine 21600).clock with frameStart := some f } }
    let link (k : LinkState) (r : Bool) : State := { s with line := { s.line with
      link := k, resume := r, silenceTimer := none, statusTimer := none, lostTimer := if k = .lost then some 0 else none } }
    (takesMessage s .beacon 0#8 (beaconOf 21600 0#8 812) ∧ (beaconOf 21600 0#8 812).length = 8 ∧
      (beaconOf 21600 0#8 812).length ≠ 7 ∧ field (beaconOf 21600 0#8 812) 6 1 ≤ 3 ∧
      takesMessage s .beacon 0#8 [] ∧ ([] : List Byte).length ≠ 8 ∧
      takesMessage s .beacon 0#8 (List.replicate 8 4#8) ∧ 3 < field (List.replicate 8 4#8) 6 1 ∧
      takesMessage s .beacon 0#8 (List.replicate 8 3#8) ∧ field (List.replicate 8 3#8) 6 1 ≤ 3) ∧
    (takesMessage (link .hunt false) .beacon 0#8 (beaconOf 21600 0#8 812) ∧
      takesMessage (link .lost true) .beacon 0#8 (beaconOf 21600 0#8 812) ∧
      takesMessage (link .lost false) .beacon 0#8 (beaconOf 21600 0#8 812)) ∧
    (beaconB.condition = s.line.condition ∧ beaconB.textCode = s.line.textCode ∧ 7 ≠ s.line.textCode ∧
      BranchCondition.disrupted ≠ s.line.condition) ∧
    (s.clock.frameStart = some f ∧ f.disturbed = true ∧ (onLine 21600).clock.frameStart = none ∧
      (onLine 21600).clock.timeState ≠ .unset ∧ (onLine 21600).clock.time.sec ≤ 86399 ∧
      (beaconB.time.ticks : Int) - (onLine 21600).clock.time.ticks = 0 + 1382400 * 0) ∧
    (beaconB.time.sec ≤ 86399 ∧ beaconB.time.tick ≤ 15) := by
  unfold takesMessage
  decide +kernel

theorem witness_HoldoverAndFrameStart :
    let s : State := { onLine 21600 with clock := { (onLine 21600).clock with holdover := some 0 } }
    let rx (m : Nat) (p : RxPhase) : State := { s with line := { s.line with rx := { marks := m, phase := p } } }
    (s.clock.timeState = .locked ∧ s.clock.holdover = some 0) ∧
      (s.line.link ≠ .dark ∧ (rx 6 (.bad .check)).line.rx.phase.inFrame = false ∧ (rx 6 (.bad .check)).line.rx.marks = 6) ∧
      (State.reset.line.link = .dark ∧ (rx 0 .starting).line.rx.phase.inFrame = true ∧
        (rx 5 .waiting).line.rx.marks ≠ 6) := by decide

/-! ### Expected times and the board -/

theorem witness_ExpectedTimes :
    (c2317.state ≠ .arrived ∧ c2317.state ≠ .departed ∧ c2317.sa = some 61380 ∧ c2319.sa = none) ∧
      (c2411Arrived.state = .arrived ∧ c2411Arrived.aa = some 69950) ∧
      (({ c2411 with state := .departed, ad := some 0 } : Call).state = .departed ∧
        ({ c2411 with state := .departed, ad := some 0 } : Call).ad = some 0) := by decide

/-- A call that stands in DUE one second before its DUE point. -/
def dueAgain : State := withCalls [{ c2405 with state := .due }] (onLine 43079)

theorem goodBank_dueAgain : GoodBank dueAgain.calls.active := goodBank_one inRange_2405

theorem witness_EvaluationOfAll :
    let quotedAt (sec : Nat) := quoted sec
    GoodBank (quotedAt 62581).calls.active ∧ (quotedAt 62581).clock.timeState ≠ .unset ∧
      (approach c2317 = some 61380 ∧ 61380 + 1200 < 62581 ∧ ¬ 61380 + 1200 < 62580) ∧
      ((quotedAt 62581).issue.sale.map fun x => (x.state, x.call)) = some (.quoted, some 2317) ∧
      (selling 62581).issue.sale = none ∧
      ((({ (onLine 0).line with urgent := [.stopRequest 2317 none none, .holdGranted] } : Line).urgent.head?.bind Item.stopOf).any
          fun n => n = 2317) = true ∧
      ((onLine 0).line.urgent.head?.bind Item.stopOf) = none ∧
      GoodBank dueAgain.calls.active ∧ dueAgain.clock.timeState ≠ .unset ∧
      ((evaluateCall 2405 dueAgain).calls.active.map fun c => c.state) = [.scheduled] ∧ evaluateCall 2406 dueAgain = dueAgain ∧
      (GoodBank State.reset.calls.active ∧ State.reset.clock.timeState = .unset) :=
  ⟨goodBank_selling 62581, by decide, by decide, by decide, by decide, by decide, by decide, goodBank_dueAgain, by decide,
    by decide, by decide, goodBank_nil, by decide⟩

theorem witness_BoardRows : TimeState.locked ≠ .unset ∧ TimeState.holdover ≠ .unset := by decide

theorem witness_BoardAndDemand :
    let s := onLine 60000
    let supply (x : Supply) (on : Bool) (m : ScreenMode) : State :=
      { s with screen := { s.screen with supply := x, sigpwr := on, mode := m } }
    (buildBoard s = s.board.board ∧ buildBoard (selling 60000) ≠ (selling 60000).board.board) ∧
      ((supply .dark false .off).screen.supply = .dark ∧ demand (supply .dark false .off) = false) ∧
      (demand (supply .dark true .on) = true ∧ (supply .dark true .on).screen.sigpwr = true) ∧
      (demand (supply .dark false .on) = true ∧ (supply .dark false .on).screen.sigpwr = false) ∧
      (demand { supply .dark false .auto with platform := { s.platform with buttonDemand := some 0 } } = true ∧
        demand (supply .dark false .auto) = false) ∧
      ((supply .lit true .auto).screen.supply = .lit ∧ demand (supply .lit true .auto) = false) ∧
      ((supply .fault false .on).screen.supply ≠ .dark ∧ (supply .fault false .on).screen.supply ≠ .lit) := by
  decide +kernel

theorem witness_DelayNotices :
    takesMessage (selling 60530) .delay 0#8 delay2317 ∧ delay2317.length = 8 ∧ GoodBank (selling 60530).calls.active ∧
      (∃ c ∈ (selling 60530).calls.active, c.service = 2317 ∧ c.state = .scheduled ∧ c.notice = none) ∧
      (∃ old : DelayNotice, ({ c2317 with notice := some old } : Call).notice = some old ∧ old.report = 60521 ∧
        ¬ old.report ≤ 60520) :=
  ⟨⟨by decide, by decide⟩, by decide, goodBank_selling 60530, by decide,
    { delay := 0, point := 1, report := 60521 }, rfl, rfl, by decide⟩

theorem witness_CancelAndReinstate :
    let s (x : CallState) (y : StopState) := withCalls [{ c2405 with state := x, stop := y }] (onLine 42000)
    takesMessage (s .scheduled .none) .cancel 0#8 (beBytes 2 2405) ∧ (beBytes 2 2405).length = 2 ∧
      GoodBank (s .scheduled .none).calls.active ∧
      takesMessage (s .cancelled .sent) .reinstate 0#8 (beBytes 2 2405) ∧
      (∃ c ∈ (s .scheduled .none).calls.active, c.service = 2405 ∧ c.state = .scheduled) ∧
      (∀ c ∈ (s .arrived .none).calls.active, c.service = 2405 → c.state ≠ .scheduled ∧ c.state ≠ .due) ∧
      (∃ c ∈ (s .cancelled .sent).calls.active, c.service = 2405 ∧ c.state = .cancelled ∧ c.stop = .sent) ∧
      (∃ c ∈ (s .cancelled .late).calls.active, c.service = 2405 ∧ c.state = .cancelled ∧ c.stop = .late) ∧
      ∀ c ∈ (s .due .none).calls.active, c.service = 2405 → c.state ≠ .cancelled :=
  ⟨⟨by decide, by decide⟩, by decide, goodBank_one inRange_2405, ⟨by decide, by decide⟩, by decide⟩

theorem witness_DeadlinesReached :
    let s (sec : Nat) := withCalls [c2405] (onLine sec)
    GoodBank (s 0).calls.active ∧ c2405 ∈ (s 43080).calls.active ∧ (s 43080).clock.timeState ≠ .unset ∧
      (approach c2405 = some 43200 ∧ c2405.state = .scheduled ∧ 43200 ≤ 43080 + 120 ∧ 43080 ≤ 43200 + 1200) ∧
      43200 + 1200 < 44401 ∧ (boardTime c2405 = some 43230 ∧ 43230 ≤ 36030 + 60 * 120) ∧
      ((c2405.sd.or c2405.sa) = some 43230 ∧ ({ c2405 with state := .cancelled } : Call).state = .cancelled ∧
        43230 + 60 * 15 ≤ 44130) ∧
      (∃ x : DelayNotice, ({ c2405 with notice := some x } : Call).notice = some x ∧ x.report + 1200 < 43201 ∧
        ¬ x.report + 1200 < 43200) ∧
      (∃ r ∈ boardRowsOf Params.defaults .locked 42030 [c2405], r.service = c2405.service ∧ 43230 ≤ 42030 + 60 * 20) :=
  ⟨goodBank_one inRange_2405, by decide, by decide, by decide, by decide, by decide, by decide,
    ⟨{ delay := 0, point := 1, report := 42000 }, rfl, by decide, by decide⟩, by decide +kernel⟩

/-! ### Ports and sales -/

theorem witness_RequestsNotCarriedOut :
    let s := onLine 0
    takesTransaction s .vending ∧
      (¬ takesTransaction { s with vport := { s.vport with held := true } } .vending ∧
        ¬ takesTransaction { s with vport := { s.vport with framing := .discard } } .vending ∧ ¬ takesTransaction s .signage) ∧
      ((req []).octets ≠ [] ∧ framed { octets := [0x01#8], partialOctet := false } = none ∧
        60 < (61#8).toNat ∧ [0x00#8].length ≠ (2#8).toNat) ∧
      (Command.board.ofPort .vending = false ∧ Command.quote.ofPort .vending = true ∧
        framed (req quote2317) = some quote2317 ∧ quote2317.length = Command.quote.length) ∧
      (2 < field [0x01#8, 0x36#8, 0x03#8, 0x00#8, 0xFF#8, 0xFF#8] 2 1 ∧ 3 < field [0x04#8] 0 1 ∧
        (2 < field [0x03#8, 0xFF#8] 0 1 ∧ field [0x03#8, 0xFF#8] 0 1 ≠ 255) ∧ 256 ≤ field [0x01#8, 0x00#8] 0 2) ∧
      ((0xA4#8 : Byte) ≠ 0xA5#8 ∧ 12 < (0x0D#8 : Byte).toNat) := by
  unfold takesTransaction
  decide

theorem witness_SnapshotRequests :
    let s : State := { selling 61000 with screen := { (selling 61000).screen with sigpwr := true } }
    (takesTransaction s .vending ∧ takesTransaction s .signage) ∧
      (wellFramed .time .vending (req []) [] ∧ wellFramed .time .signage (req []) [] ∧ wellFramed .board .signage (req []) [] ∧
        wellFramed .salesState .vending (req []) [] ∧ wellFramed .condition .signage (req []) []) ∧
      wellFramed .calls .vending (req [0x01#8, 0x36#8]) [0x01#8, 0x36#8] ∧ s.clock.timeState ≠ .unset ∧
      (let u : State := { s with clock := { s.clock with timeState := .unset } };
        takesTransaction u .vending ∧ takesTransaction u .signage ∧ u.clock.timeState = .unset) := by
  unfold takesTransaction wellFramed
  decide +kernel

theorem witness_CollectionAndNotices :
    let s := onLine 0
    takesTransaction s .vending ∧ wellFramed .notices .vending (req [0xFF#8, 0xFF#8]) [0xFF#8, 0xFF#8] ∧
      wellFramed .notices .vending (req [0x00#8, 0xFF#8]) [0x00#8, 0xFF#8] ∧ field [0xFF#8, 0xFF#8] 0 2 = 65535 ∧
      field [0x00#8, 0xFF#8] 0 2 < 256 ∧ 1 ≠ 0 := by
  unfold takesTransaction wellFramed
  decide

def quoteOf2317 : QuoteFields := { dest := 310, kind := .dayReturn, concession := 2, service := some 2317 }

theorem witness_QuoteChecksInOrder : takesTransaction (selling 61000) .vending ∧
    wellFramed .quote .vending (req quote2317) quote2317 ∧ readQuote quote2317 = some quoteOf2317 := by
  unfold takesTransaction wellFramed
  decide +kernel

theorem witness_QuoteAccepted : takesTransaction (selling 61000) .vending ∧
    wellFramed .quote .vending (req quote2317) quote2317 ∧ readQuote quote2317 = some quoteOf2317 ∧
    quoteRefusal (requestTaken .vending (selling 61000)) quoteOf2317 = none ∧
    zoneOf (selling 61000).fares.dests 310 = some 3 ∧
    slotOf (selling 61000).fares 2 = some { discount := 34, minimum := 150 } := by
  unfold takesTransaction wellFramed
  decide +kernel

theorem witness_CommitTaken :
    let s := quoted 61050
    let b : Block := { first := 500001, next := 500151, count := 50 }
    let sold (sec : Nat) : State := { withCalls [c2405] (quoted sec) with
      issue := { (quoted sec).issue with sale := (quoted sec).issue.sale.map fun x => { x with call := some 2405 } } }
    (takesTransaction s .vending ∧ wellFramed .commit .vending (req [3#8]) [3#8] ∧ field [3#8] 0 1 ≤ 3) ∧
      (selling 61050).issue.sale = none ∧
      ((s.issue.sale.map fun x => x.state) = some .quoted ∧ s.issue.blocks = [b] ∧ 1 ≤ b.count ∧ s.issue.journal.length < 400 ∧
        s.issue.sequence < 4294967295 ∧ s.issue.hold ≠ .asked ∧ (asked s).issue.hold = .asked) ∧
      (400 ≤ (journal 1 1 400).length ∧ 351 = (journal 1 1 351).length) ∧
      GoodBank s.calls.active ∧
      (GoodBank (sold 42899).calls.active ∧ c2405 ∈ (sold 42899).calls.active ∧
        ((sold 42899).issue.sale.map fun x => (x.state, x.call)) = some (.quoted, some c2405.service) ∧
        c2405.kind = .request ∧ c2405.stop = .none ∧ approach c2405 = some 43200 ∧ 42899 + 300 < 43200 ∧
        ¬ 42900 + 300 < 43200) ∧
      ((s.issue.blocks.map Block.count).sum = 50 ∧ 50 - 1 < 50 ∧ ¬ 51 - 1 < 50 ∧ s.issue.askTimer = none) := by
  unfold takesTransaction wellFramed
  exact ⟨by decide +kernel, by decide, by decide, by decide +kernel, goodBank_selling 61050,
    ⟨goodBank_one inRange_2405, by decide⟩, by decide⟩

theorem witness_SaleAndHoldTimers :
    let s := quoted 61050
    let t := held (onLine 0)
    (takesTransaction s .vending ∧ wellFramed .release .vending (req []) [] ∧ s.issue.sale.isSome = true ∧
      (onLine 0).issue.sale = none ∧ (asked s).issue.hold = .asked) ∧
      ({ t.issue with limitTimer := some 0 } : Issue).limitTimer = some 0 ∧ t.issue.hold = .held ∧
      (50 ≤ (s.issue.blocks.map Block.count).sum ∧ (t.issue.blocks.map Block.count).sum < 50) := by
  unfold takesTransaction wellFramed
  decide +kernel

def signageOn (x : Supply) : State := { onLine 0 with screen := { (onLine 0).screen with
  supply := x
  sigpwr := true
  readyTimer := if x = .powering then some 0 else none
  settling := settlingOf x
  idleTimer := if x = .lit then some 0 else none
  retryTimer := if x = .fault then some 0 else none } }

theorem witness_SignageRequests :
    let s := signageOn .powering
    (takesTransaction s .signage ∧ takesTransaction (signageOn .dark) .signage ∧ wellFramed .ready .signage (req []) [] ∧
      wellFramed .quiet .signage (req []) []) ∧
      (wellFramed .screen .signage (req [0x02#8, 0x70#8]) [0x02#8, 0x70#8] ∧ field [0x02#8, 0x70#8] 0 1 = 2 ∧
        readScreen [0x02#8, 0x70#8] = some { mode := some .off, trim := some (-16) } ∧
        wellFramed .screen .signage (req [0xFF#8, 0xFF#8]) [0xFF#8, 0xFF#8] ∧ field [0xFF#8, 0xFF#8] 0 1 = 255 ∧
        readScreen [0xFF#8, 0xFF#8] = some { mode := none, trim := none }) ∧
      ((signageOn .dark).screen.supply = .dark ∧ (signageOn .dark).sport.notices &&& ~~~(signageOn .dark).sport.mask = 0) ∧
      ((signageOn .dark).sport.latch 0x0001#16).notices &&& ~~~((signageOn .dark).sport.latch 0x0001#16).mask ≠ 0 := by
  unfold takesTransaction wellFramed
  decide +kernel

theorem witness_SupplyTimers :
    (signageOn .powering).screen.readyTimer = some 0 ∧ (signageOn .lampSettling).screen.settling = some 100 ∧
      (signageOn .biasSettling).screen.settling = some 50 ∧ (signageOn .lit).screen.idleTimer = some 0 ∧
      (signageOn .fault).screen.retryTimer = some 0 := by decide

/-! ### Messages, loads and the line -/

theorem witness_FramesNotCarriedOut :
    let s := onLine 0
    (s.line.link ≠ .dark ∧ rxAdmitsBad s.line.rx .check = true ∧ rxAdmitsBad { marks := 0, phase := .starting } .aborted = true) ∧
      (heard s 5#8 0x41#8 [] = true ∧ DownKind.ofCode 0x41#8 = none) ∧
      (heard s 6#8 DownKind.hold.code [] = true ∧ taken s .hold 6#8 = false ∧ taken s .hold 0#8 = false) ∧
      (takesMessage s .cancel 0#8 [0#8] ∧ DownKind.cancel.hasLength [0#8] = false) ∧
      (takesMessage s .loadClear 5#8 [0#8] ∧ DownKind.loadClear.hasLength [0#8] = false) := by
  unfold takesMessage
  decide

def inLink (k : LinkState) : State := { onLine 0 with line := { (onLine 0).line with
  link := k
  statusTimer := none
  silenceTimer := if k = .admitted then some 0 else none
  lostTimer := if k = .lost then some 0 else none
  joinTimer := if k = .synced then some 0 else none
  admissionTimer := if k = .synced then some 0 else none } }

theorem witness_LinkMoves :
    (takesMessage (inLink .synced) .restart 0#8 [] ∧ (inLink .synced).line.link ≠ .hunt ∧
      takesMessage (inLink .hunt) .restart 0#8 [] ∧ (inLink .hunt).line.link = .hunt) ∧
      (takesMessage (inLink .synced) .admission 5#8 [1#8, 0#8, 0#8, 1#8, 1#8, 1#8] ∧
        takesMessage (inLink .admitted) .admission 5#8 [1#8, 0#8, 0#8, 1#8, 1#8, 1#8] ∧
        readAdmit [1#8, 0#8, 0#8, 1#8, 1#8, 1#8] = some { classMap := ClassMap.defaults, resume := true } ∧
        ∀ k, k < 6 → field [1#8, 0#8, 0#8, 1#8, 1#8, 1#8] k 1 ≤ 1) ∧
      (takesMessage (inLink .synced) .admission 5#8 [1#8, 0#8, 0#8, 1#8, 1#8] ∧ [1#8, 0#8, 0#8, 1#8, 1#8].length ≠ 6 ∧
        takesMessage (inLink .synced) .admission 5#8 [1#8, 0#8, 0#8, 1#8, 1#8, 2#8] ∧
        1 < field [1#8, 0#8, 0#8, 1#8, 1#8, 2#8] 5 1) ∧
      ((inLink .synced).line.joinTimer = some 0 ∧ (inLink .synced).line.admissionTimer = some 0 ∧
        (inLink .admitted).line.silenceTimer = some 0 ∧ (inLink .lost).line.lostTimer = some 0) := by
  unfold takesMessage
  decide +kernel

theorem witness_StopAcknowledged :
    let s (y : StopState) := withCalls [{ c2405 with stop := y, ackTimer := if y = .sent then some 0 else none }] (onLine 42121)
    GoodBank (s .sent).calls.active ∧ takesMessage (s .sent) .stopAck 5#8 (beBytes 2 2405) ∧ (beBytes 2 2405).length = 2 ∧
      (∃ c ∈ (s .sent).calls.active, c.service = 2405 ∧ c.kind = .request ∧ c.stop = .sent ∧ c.ackTimer = some 0) ∧
      (∀ c ∈ (s .late).calls.active, c.service = 2405 → c.stop ≠ .wanted ∧ c.stop ≠ .sent) ∧
      ((dayEnd .loading).line.urgent.head?.bind Item.stopOf) = some 2405 ∧
      ((s .sent).line.urgent.head?.bind Item.stopOf) = none :=
  ⟨goodBank_one inRange_2405, ⟨by decide, by decide⟩, by decide, by decide +kernel, by decide +kernel, by decide, by decide⟩

theorem witness_JournalAcknowledged :
    (takesMessage drained .saleAck 5#8 (beBytes 4 8409) ∧ (beBytes 4 8409).length = 4 ∧
      (drained.issue.journal.head?.map fun t => t.sequence) = some 8410 ∧ field (beBytes 4 8409) 0 4 < 8410 ∧
      8410 ≤ field (beBytes 4 8410) 0 4) ∧
      ({ drained.line with saleAckTimer := some 0 } : Line).saleAckTimer = some 0 := by
  unfold takesMessage
  decide +kernel

def fourBlocks : State := { selling 61000 with issue := { (selling 61000).issue with
  blocks := [600001, 610001, 620001, 630001].map fun n => { first := n, next := n, count := 2000 } } }

theorem stockInv_fourBlocks : StockInv fourBlocks.issue :=
  ⟨by decide, by decide, by decide, by unfold Block.holds; decide, by decide, by decide, by decide, by decide⟩

theorem stockInv_selling : StockInv (selling 61000).issue :=
  ⟨by decide, by decide, by decide, by unfold Block.holds; decide, by decide, by decide, by decide, by decide⟩

theorem witness_GrantsAndHold :
    (StockInv fourBlocks.issue ∧ StockInv (selling 61000).issue) ∧
    (takesMessage fourBlocks .serialGrant 5#8 [0xFF#8, 0xFF#8, 0xFF#8, 0x00#8, 0x01#8] ∧ 4 ≤ fourBlocks.issue.blocks.length) ∧
      ((selling 61000).issue.blocks.length < 4 ∧
        (∃ b ∈ (selling 61000).issue.blocks, b.next ≤ 500200 ∧ 500200 < b.next + b.count) ∧
        (∀ b ∈ (selling 61000).issue.blocks, ¬ 500201 < b.next + b.count) ∧
        (∃ t ∈ (selling 61000).issue.journal, t.serial = 500150) ∧ ∀ t ∈ (selling 61000).issue.journal, t.serial < 500201) ∧
      (takesMessage (selling 0) .hold 5#8 [] ∧ (selling 0).issue.hold = .free ∧ (selling 0).issue.sale = none ∧
        (quoted 0).issue.sale.isSome = true ∧ (asked (quoted 0)).issue.hold = .asked ∧ (held (selling 0)).issue.hold = .held) ∧
      takesMessage (held (selling 0)) .release 5#8 [] :=
  ⟨⟨stockInv_fourBlocks, stockInv_selling⟩, by unfold takesMessage; decide +kernel⟩

/-- A LOAD_CALL of service 2405 (SA 43,200, SD 43,230) to this bank, of this kind. -/
def loadOf (bank kind : Byte) (sa : Nat) : List Byte :=
  [bank] ++ beBytes 2 2405 ++ beBytes 2 455 ++ [kind] ++ beBytes 3 sa ++ beBytes 3 43230 ++ [0xFF#8, 0xFF#8, 0x00#8, 0x00#8]

/-- A LOAD_CALL to NEXT with the served destination 310 twice and the upstream point 41 twice. -/
def twoTwo : List Byte :=
  (loadOf 1#8 0#8 43200).take 14 ++ [2#8] ++ beBytes 2 310 ++ beBytes 2 310 ++ [2#8, 41#8] ++ beBytes 2 90 ++ [41#8] ++ beBytes 2 60

theorem test_load_call_later_point : (readLoadCall twoTwo).map (fun f => (f.record.served, f.record.points))
    = some ([310], [(41, 60)]) := by decide +kernel

theorem witness_NextBankLoads :
    let s (next : List Call) : State := { onLine 0 with calls := { active := [], next := next, nextState := .loading } }
    (GoodBank (s fullBank).calls.next ∧ GoodBank (s []).calls.next) ∧
      (takesMessage (s fullBank) .loadCall 5#8 (loadOf 1#8 1#8 43200) ∧
        (readLoadCall (loadOf 1#8 1#8 43200)).map (fun f => (f.bank, f.record.service, f.record.timesOk)) = some (1, 2405, true) ∧
        (readLoadCall (loadOf 1#8 1#8 43231)).map (fun f => f.record.timesOk) = some false ∧
        (readLoadCall (loadOf 2#8 1#8 43200)).map (fun f => f.bank) = some 2 ∧
        DownKind.loadCall.hasLength (loadOf 1#8 1#8 43200) = true ∧ DownKind.loadCall.hasLength twoTwo = true) ∧
      ((∀ c ∈ (s fullBank).calls.next, c.service ≠ 2405) ∧ 96 ≤ (s fullBank).calls.next.length ∧ (s []).calls.next.length < 96) ∧
      takesMessage (s []) .loadClear 5#8 [] ∧ takesMessage (s fullBank) .loadEnd 5#8 [96#8] ∧
      (96#8 : Byte).toNat = (s fullBank).calls.next.length ∧ (0#8 : Byte).toNat = (s []).calls.next.length ∧
      (255#8 : Byte).toNat ≠ (s fullBank).calls.next.length :=
  ⟨⟨goodBank_full, goodBank_nil⟩, by unfold takesMessage; decide +kernel⟩

theorem witness_ActiveLoads :
    let s (sold : Nat) : State := held (withCalls [{ c2405 with kind := .stops, sold := sold }] (onLine 0))
    let lapsed : State := held (withCalls [{ c2405 with kind := .stops, sold := 1, state := .lapsed }] (onLine 0))
    let full : State := held (withCalls fullBank (onLine 0))
    (GoodBank (s 1).calls.active ∧ GoodBank full.calls.active ∧ GoodBank lapsed.calls.active) ∧
      (takesMessage (s 1) .loadCall 5#8 (loadOf 0#8 1#8 43200) ∧
        (readLoadCall (loadOf 0#8 1#8 43200)).map (fun f => (f.bank, f.record.service, f.record.kind, f.record.timesOk))
          = some (0, 2405, .request, true) ∧
        (readLoadCall (loadOf 0#8 0#8 43200)).map (fun f => f.record.kind) = some .stops ∧
        (readLoadCall (loadOf 0#8 1#8 43231)).map (fun f => f.record.timesOk) = some false) ∧
      ((onLine 0).issue.hold ≠ .held ∧ (s 0).issue.hold = .held ∧ 96 ≤ full.calls.active.length ∧
        (∀ c ∈ full.calls.active, c.service ≠ 2405) ∧ (onLine 0).calls.active = []) ∧
      (∃ old ∈ (s 1).calls.active, old.service = 2405 ∧ old.kind = .stops ∧ 0 < old.sold ∧ old.state.saleable = true) ∧
      (∃ old ∈ (s 0).calls.active, old.service = 2405 ∧ old.kind = .stops ∧ old.sold = 0) ∧
      (∃ old ∈ lapsed.calls.active, old.service = 2405 ∧ old.kind = .stops ∧ 0 < old.sold ∧ old.state = .lapsed ∧
        lapsed.issue.hold = .held) ∧ (List.replicate 39 0x00#8).length = 39 ∧
      takesMessage (s 0) .loadParams 5#8 (List.replicate 39 0x00#8) ∧ (readParams (List.replicate 39 0x00#8)).isSome = true :=
  ⟨⟨goodBank_one (inRange_of (by decide)), goodBank_full, goodBank_one (inRange_of (by decide))⟩, by unfold takesMessage; decide +kernel⟩

theorem witness_QueuesAndStatus :
    (16 ≤ fullUrgent.urgent.length ∧ fullUrgent.discards ≤ 65535 ∧
      fullUrgent.urgent = [] ++ .observation .pass none none :: fullUrgent.urgent.tail ∧
      (.observation .pass none none : Item).stopOf = none) ∧
      ((onLine 0).line.urgent.length < 16 ∧ (onLine 0).line.routine.length < 32) ∧
      (∀ j ∈ List.replicate 16 (Item.stopRequest 2405 none none), j.stopOf ≠ none) ∧
      (List.replicate 32 Item.holdGranted).length ≥ 32 ∧
      (Item.status ∉ (onLine 0).line.urgent ∧ Item.status ∉ (onLine 0).line.routine) ∧
      ((onLine 0).line.link = .admitted ∧ ({ (onLine 0).line with statusTimer := some 0 } : Line).statusTimer = some 0) := by
  decide

theorem witness_StopsWantedAndOffered :
    let s (sec : Nat) := withCalls [c2405] (onLine sec)
    let waiting (l : Line) : State := { withCalls [{ c2405 with stop := .wanted }] (onLine 0) with line := l }
    let stops : Line := { fullUrgent with
      urgent := (List.range 16).map fun k => .stopRequest (3000 + k) (some .ticket) (some 0) }
    (GoodBank (s 0).calls.active ∧ GoodBank (waiting fullUrgent).calls.active) ∧
      (c2405 ∈ (s 42899).calls.active ∧ c2405.kind = .request ∧ c2405.stop = .none ∧ approach c2405 = some 43200 ∧
        42899 + 300 < 43200 ∧ ¬ 42900 + 300 < 43200) ∧
      (∀ c ∈ (selling 0).calls.active, c.service = 2317 → c.kind = .stops) ∧
      ((waiting (onLine 0).line).line.urgent = [] ∧ (onLine 0).line.discards ≤ 65535 ∧
        (∃ c ∈ (waiting (onLine 0).line).calls.active, c.state.saleable = true ∧ c.stop = .wanted)) ∧
      ((waiting fullUrgent).line.urgent.length = 16 ∧ fullUrgent.discards ≤ 65535 ∧
        (fullUrgent.urgent.filter fun i => i.stopOf ≠ none).length = 4) ∧
      ((waiting stops).line.urgent.length = 16 ∧ (stops.urgent.filter fun i => i.stopOf ≠ none).length = 16 ∧
        stops.urgent.all (fun i => i.stopOf ≠ some 2405) = true) :=
  ⟨⟨goodBank_one inRange_2405, goodBank_one inRange_2405⟩, by decide +kernel⟩

def starting (urgent routine : List Item) (idle : Nat) : State := { drained with line := { drained.line with
  urgent := urgent, routine := routine, idleCount := idle } }

def sending (source : TxSource) (e : EchoResult) (run : Nat) (k : LinkState) : State :=
  let s := inLink k
  { s with line := { s.line with
      faultRun := run
      tx := some
        { source := source
          queued := source.isItem
          octets := []
          rest := []
          echo := e
          reused := false
          rearmed := false } } }

theorem witness_FramesStartAndRun :
    ((inLink .synced).line.tx = none ∧ (inLink .synced).line.link = .synced ∧
        (inLink .synced).line.joinPending = false ∧
        ({ (inLink .synced).line with joinPending := true, idleCount := 6 } : Line).urgentThreshold ≤ 6) ∧
      ((starting [.holdGranted] [] 6).line.tx = none ∧ (starting [.holdGranted] [] 6).line.link = .admitted ∧
        (starting [.holdGranted] [] 6).line.urgentThreshold ≤ 6) ∧
      ((starting [] [.status] 11).line.turn = .queue ∧ (starting [] [.status] 11).line.routineThreshold ≤ 11 ∧
        (starting [] [] 11).line.cursor = some 8411 ∧ (starting [] [] 11).line.routine = []) ∧
      ((after .upwardFrameStart (starting [.holdGranted] [] 6)).line.tx ≠ none ∧ State.reset.line.link = .dark ∧
        (inLink .hunt).line.link = .hunt ∧ (inLink .lost).line.link = .lost ∧
        (inLink .synced).line.idleCount < (inLink .synced).line.urgentThreshold ∧
        ((starting [.holdGranted] [.status] 5).line.urgent ≠ [] ∧ 5 < (starting [.holdGranted] [.status] 5).line.urgentThreshold) ∧
        ((starting [] [.status] 10).line.urgent = [] ∧ 10 < (starting [] [.status] 10).line.routineThreshold) ∧
        ((onLine 0).line.urgent = [] ∧ (onLine 0).line.routine = [] ∧ (onLine 0).line.cursor = none)) ∧
      ((starting [] [] 255).line.link ≠ .dark ∧ (starting [] [] 255).line.idleCount ≤ 255 ∧
        State.reset.line.idleCount ≤ 255) ∧
      (RxPhase.inFrame (.bad .check) = false ∧ ({ marks := 6, phase := .starting } : Receiver).phase = .starting) ∧
      ((drained.issue.journal.find? fun x => x.sequence = 8411).isSome = true ∧
        (onLine 0).issue.journal = [] ∧ drained.issue.journal ≠ []) ∧
      ((bitsOf [5#8, 1#8, 41#8]).length = 24 ∧ (bitsOf [5#8, 1#8, 41#8]).getLast? = some (decide (Symbol.mark = .mark)) ∧
        40 < (41#8).toNat ∧ ((bitsOf [5#8, 1#8, 41#8]).take 22).length < 23) ∧
      (∃ t, exec .silenceTimeout (sending (.urgentItem .holdGranted) .equal 0 .admitted) = .next t) := by
  refine ⟨by decide +kernel, by decide +kernel, by decide +kernel, by decide +kernel, by decide +kernel, by decide +kernel,
    by decide +kernel, by decide, ⟨_, rfl⟩⟩

theorem witness_FramesLost :
    (sending (.sale 1) .contention 0 .admitted).line.tx.any (fun f => f.echo = .contention) = true ∧
      (sending (.sale 1) .fault 1 .admitted).line.faultRun < 2 ∧ 2 ≤ (sending (.sale 1) .fault 2 .admitted).line.faultRun ∧
      (sending .join .fault 2 .synced).line.link = .synced ∧ (sending .join .fault 2 .synced).line.contentions ≤ 65535 ∧
      (sending .join .fault 2 .synced).line.faults ≤ 65535 := by decide

/-- A frame sent whole whose item the discipline has removed, a cause of a STATUS taken before that. -/
def removed (src : TxSource) : State :=
  let s := sending src .equal 0 .admitted
  { s with line := { s.line with statusOwed := true, tx := s.line.tx.map fun f => { f with queued := false } } }

theorem witness_FramesCompleted :
    (∀ src ∈ [TxSource.join, .sale 8410, .urgentItem (.stopRequest 2405 none none), .urgentItem .holdGranted,
        .routineItem (.serialAsk 0), .routineItem .status, .urgentItem .status],
      ∃ f, (sending src .equal 0 .admitted).line.tx = some f ∧ f.echo = .equal ∧ f.rest = [] ∧ f.source = src) ∧
      (∀ src ∈ [TxSource.urgentItem .status, .urgentItem (.stopRequest 2405 none none), .routineItem .status],
        ∃ f, (removed src).line.tx = some f ∧ f.echo = .equal ∧ f.rest = [] ∧ f.source = src ∧ f.queued = false ∧
          (removed src).line.statusOwed = true) ∧
      (Item.holdGranted.stopOf = none ∧ Item.holdGranted ≠ .status ∧ (Item.serialAsk 0).stopOf = none) ∧
      ((onLine 0).line.statusOwed = false ∧ Item.status ∉ (onLine 0).line.urgent ∧ Item.status ∉ (onLine 0).line.routine ∧
        ({ (onLine 0).line with statusOwed := true } : Line).statusOwed = true) := by
  exact ⟨fun src _ => ⟨_, rfl, rfl, rfl, rfl⟩, fun src _ => ⟨_, rfl, rfl, rfl, rfl, rfl, rfl⟩, by decide⟩

/-! ### Invariants -/

/-- A halt in the middle of a sale, with a COMMIT waiting in the queue. -/
def busy : State := { quoted 61050 with pending := [.commit .vending (req [1#8])] }

theorem busy_steps : ∃ t, step busy = .next t := ⟨_, rfl⟩

theorem bankInv_busy : BankInv busy := ⟨goodBank_selling 61050, goodBank_nil, fun _ => rfl⟩

theorem stopInv_busy : StopInv busy := by
  refine ⟨?_, by decide, by decide, by decide, fun f h => nomatch h⟩
  intro c hc
  have h : c = c2317 ∨ c = c2319 ∨ c = c2321 := by simpa [busy, quoted, selling, withCalls] using hc
  rcases h with rfl | rfl | rfl <;> exact ⟨by decide, by decide, by decide, by decide⟩

theorem witness_BankAndStopKept : BankInv busy ∧ StopInv busy ∧ ∃ t, step busy = .next t :=
  ⟨bankInv_busy, stopInv_busy, busy_steps⟩

theorem witness_SaleKept : BankInv busy ∧ SaleInv busy ∧ ∃ t, step busy = .next t :=
  ⟨bankInv_busy, ⟨by decide, by decide, by decide, by decide, by decide +kernel⟩, busy_steps⟩

theorem witness_StockAndDrainKept : StockInv busy.issue ∧ DrainInv busy ∧ ∃ t, step busy = .next t :=
  ⟨⟨by decide, by decide, by decide, by unfold Block.holds; decide, by decide, by decide, by decide, by decide⟩,
    ⟨by decide, by decide, fun f h => (nomatch h), by decide⟩, busy_steps⟩

theorem witness_StoresKept : ClockInv busy.clock ∧ busy.line.params.InRange ∧ FareInv busy.fares ∧ ∃ t, step busy = .next t :=
  ⟨⟨⟨by decide, by decide⟩, by decide, by decide, by decide, by decide, by decide⟩,
    ⟨by decide, by decide, by decide, by decide, by decide, by decide, by decide, by decide, by decide, by decide, by decide,
      by decide, by decide⟩, fareInv_fares, busy_steps⟩

theorem witness_LineKept : LinkInv busy.line ∧ QueueInv busy.line ∧ ∃ t, step busy = .next t :=
  ⟨⟨by decide, by decide, by decide, by decide, by decide, by decide, by decide, by decide, fun f h => (nomatch h), by decide,
    by decide, by decide, by decide⟩, ⟨by decide, by decide, by decide, by decide, by decide⟩, busy_steps⟩

theorem witness_PlatformKept : PlatformInv (runsThrough none).platform ∧
    PlatformInv (onPlatform .stopped true 0 busy).platform ∧ ∃ t, step (onPlatform .stopped true 0 busy) = .next t := by
  refine ⟨?_, ?_, ⟨_, rfl⟩⟩
  · simp [PlatformInv, runsThrough, onLine, State.reset, Platform.reset, withCalls]
  · simp [PlatformInv, onPlatform, busy, quoted, selling, onLine, State.reset, Platform.reset, withCalls]

theorem witness_SupplyKept : SupplyInv busy ∧ ∃ t, step busy = .next t :=
  ⟨⟨by decide, by decide, by decide, by decide, by decide, by decide, by decide, by decide, by decide, by decide, by decide⟩,
    busy_steps⟩

theorem witness_BoardAndPortsKept :
    BoardInv busy ∧ PortInv .vending busy.vport ∧ PortInv .signage busy.sport ∧ ∃ t, step busy = .next t :=
  ⟨⟨by decide, by decide, by decide, by decide, by decide, by decide⟩, ⟨by decide, by decide, by decide, by decide⟩,
    ⟨by decide, by decide, by decide, by decide⟩, busy_steps⟩

end Sys2Proof.Tests
end

/-! The requests that read the machine (R50, R63, R91, R92, R147, R192): one rule for a request that only answers, what each
response says of the state, and the calls that CALLS lists. -/

namespace Sys2Proof.Machine

/-! ## A request that only answers -/

@[simp] theorem requestTaken_clock (port : Port) (s : State) : (requestTaken port s).clock = s.clock := by
  simp [requestTaken]
@[simp] theorem requestTaken_board (port : Port) (s : State) : (requestTaken port s).board = s.board := by
  simp [requestTaken]
@[simp] theorem requestTaken_issue (port : Port) (s : State) : (requestTaken port s).issue = s.issue := by
  simp [requestTaken]
@[simp] theorem requestTaken_line (port : Port) (s : State) : (requestTaken port s).line = s.line := by
  simp [requestTaken]
@[simp] theorem requestTaken_calls (port : Port) (s : State) : (requestTaken port s).calls = s.calls := by
  simp [requestTaken]

/-- A request whose command answers OK and does nothing else changes only the port (R188, R192). -/
theorem onRequest_answers {α : Type} {cmd : Command} {read : List Byte → Option α} (response : α → State → List Byte)
    {port : Port} {req : Request} {s : State} {p : List Byte} {v : α} (h : takesTransaction s port)
    (hf : wellFramed cmd port req p) (hr : read p = some v) :
    onRequest cmd read (fun fields t => answer port (response fields t) t) port req s
      = answeredWith port { status := .ok, payload := response v (requestTaken port s) } s := by
  rw [onRequest_carried h hf hr, answer, respond_requestTaken]

section Snapshots

variable {port : Port} {req : Request} {s : State} (h : takesTransaction s port)
include h

theorem exec_time (hf : wellFramed .time port req []) :
    exec (.time port req) s = .next (answeredWith port { status := .ok, payload := timeBytes s.clock } s) := by
  have e := onRequest_answers (read := readNothing) (fun _ t => timeBytes t.clock) h hf rfl
  rw [requestTaken_clock] at e
  exact congrArg Host.Outcome.next e

theorem exec_board (hf : wellFramed .board port req []) :
    exec (.board port req) s = .next (answeredWith port { status := .ok, payload := boardBytes s.board } s) := by
  have e := onRequest_answers (read := readNothing) (fun _ t => boardBytes t.board) h hf rfl
  rw [requestTaken_board] at e
  exact congrArg Host.Outcome.next e

theorem exec_salesState (hf : wellFramed .salesState port req []) :
    exec (.salesState port req) s = .next (answeredWith port { status := .ok, payload := salesStateBytes s } s) := by
  have e := onRequest_answers (read := readNothing) (fun _ t => salesStateBytes t) h hf rfl
  rw [show salesStateBytes (requestTaken port s) = salesStateBytes s by simp [salesStateBytes]] at e
  exact congrArg Host.Outcome.next e

theorem exec_condition (hf : wellFramed .condition port req []) :
    exec (.condition port req) s = .next (answeredWith port { status := .ok, payload := conditionBytes s } s) := by
  have e := onRequest_answers (read := readNothing) (fun _ t => conditionBytes t) h hf rfl
  rw [show conditionBytes (requestTaken port s) = conditionBytes s by simp [conditionBytes]] at e
  exact congrArg Host.Outcome.next e

theorem exec_calls {p : List Byte} (hf : wellFramed .calls port req p) (hl : p.length = 2) :
    exec (.calls port req) s = .next (answeredWith port
      { status := .ok
        payload := BitVec.ofNat 8 (callsList s (field p 0 2)).length ::
          (callsList s (field p 0 2)).flatMap (callsEntry s.line.params) } s) := by
  have hr : readCalls p = some (field p 0 2) := by simp [readCalls, ofLength, hl]
  have e := onRequest_answers (fun dest t =>
    BitVec.ofNat 8 (callsList t dest).length :: (callsList t dest).flatMap (callsEntry t.line.params)) h hf hr
  rw [show callsList (requestTaken port s) = callsList s by
    funext dest; simp [callsList, State.timeSet, State.now], requestTaken_line] at e
  exact congrArg Host.Outcome.next e

end Snapshots

/-! ## What the responses say -/

theorem flagByte_pos (n : Nat) : flagByte (0 < n) = if n = 0 then 0#8 else 1#8 := by
  cases n <;> rfl

theorem saleByte_some (x : Sale) : saleByte (some x) = if x.state = .quoted then 1#8 else 2#8 := by
  cases h : x.state <;> simp [saleByte, h]

/-! ## The calls that CALLS lists (R91) -/

theorem CallState.saleable_eq (k : CallState) :
    k.saleable = (decide (k = .scheduled) || decide (k = .due) || decide (k = .arrived)) := by
  cases k <;> rfl

theorem callsList_unset {s : State} (h : s.clock.timeState = .unset) (dest : Nat) : callsList s dest = [] := by
  simp [callsList, State.timeSet, h]

theorem callsList_set {s : State} (h : s.clock.timeState ≠ .unset) (dest : Nat) :
    callsList s dest = (sortBy (timeThenService fun c => c.ed)
      (s.calls.active.filter (listed s.line.params s.clock.time.sec dest))).take 8 := by
  simp [callsList, State.timeSet, State.now, Config.callsEntries, h]

/-- The sales cut-off of a call with SD is its ED less the sales margin (R33). -/
theorem salesCutoff_of_sd {p : Params} {c : Call} (h : c.sd.isSome = true) :
    salesCutoff p c = c.ed.map fun t => (t : Int) - p.salesMargin := by
  obtain ⟨d, hd⟩ := Option.isSome_iff_exists.1 h
  simp [salesCutoff, hd]

/-- A cut-off is later than now when the time it is taken from is later than now and the margin together. -/
theorem isBefore_cutoff (now margin : Nat) (t : Option Nat) :
    isBefore now (t.map fun x => (x : Int) - margin) = t.any fun x => decide (now + margin < x) := by
  cases t with
  | none => rfl
  | some x =>
    have : (now : Int) < x - margin ↔ now + margin < x := by omega
    simp [isBefore, this]

/-- Truncated subtraction carries a cut-off below 0 as 0 (R202). -/
theorem cutoffBytes_map_sub (margin : Nat) (t : Option Nat) :
    cutoffBytes (t.map fun x => (x : Int) - margin) = optBytes 3 (t.map fun x => x - margin) := by
  cases t with
  | none => rfl
  | some x =>
    have : ((x : Int) - margin).toNat = x - margin := by omega
    simp [cutoffBytes, this]

theorem listed_eq (p : Params) (now dest : Nat) (c : Call) :
    listed p now dest c = ((c.state = .scheduled || c.state = .due || c.state = .arrived) && c.sd.isSome &&
      c.served.contains dest && c.ed.any fun t => now + p.salesMargin < t) := by
  rw [listed, CallState.saleable_eq]
  cases hsd : c.sd.isSome with
  | false => simp
  | true => rw [salesCutoff_of_sd hsd, isBefore_cutoff]

theorem listed_sd {p : Params} {now dest : Nat} {c : Call} (h : listed p now dest c = true) : c.sd.isSome = true := by
  simp only [listed, Bool.and_eq_true] at h
  obtain ⟨⟨⟨_, hsd⟩, _⟩, _⟩ := h
  exact hsd

theorem requestCutoffBytes_eq (p : Params) (c : Call) :
    cutoffBytes (if c.kind = .request then requestCutoff p c else none)
      = optBytes 3 ((if c.kind = .request then approach c else none).map fun x => x - p.requestMargin) := by
  split
  · exact cutoffBytes_map_sub p.requestMargin (approach c)
  · rfl

theorem callsEntry_of_sd {p : Params} {c : Call} (h : c.sd.isSome = true) :
    callsEntry p c = beBytes 2 c.service ++ optBytes 3 c.ed ++ optBytes 3 (c.ed.map fun x => x - p.salesMargin)
      ++ [c.kind.code, c.stop.code]
      ++ optBytes 3 ((if c.kind = .request then approach c else none).map fun x => x - p.requestMargin) := by
  rw [callsEntry, salesCutoff_of_sd h, cutoffBytes_map_sub, requestCutoffBytes_eq]

theorem timeThenService_of_some {key : Call → Option Nat} {c d : Call} {x y : Nat} (hx : key c = some x) (hy : key d = some y)
    (h : timeThenService key c d = true) : x < y ∨ (x = y ∧ c.service ≤ d.service) := by
  simpa [timeThenService, hx, hy] using h

/-! ## The statement -/

/-- Settles O31: each response is read off the state as it stands (`exec_time` and its fellows), and CALLS takes the first 8
of the listed calls sorted by ED and service number, each of which has SD. -/
theorem snapshotRequests : Obligations.SnapshotRequests := by
  unfold Obligations.SnapshotRequests
  refine ⟨fun port req s h => ⟨fun hf => ?time, exec_board h, fun hf => ?salesState, exec_condition h⟩,
    fun port req p s h hf hl => ⟨fun hu => ?unset, fun hset => ?set⟩⟩
  case time => rw [exec_time h hf, timeBytes, flagByte_pos]
  case salesState =>
    rw [exec_salesState h hf, salesStateBytes, remaining]
    cases s.issue.sale with
    | none => rfl
    | some x => rw [saleByte_some]
  case unset =>
    rw [exec_calls h hf hl, callsList_unset hu]
    rfl
  case set =>
    simp only [← listed_eq]
    have perm := sortBy_perm (timeThenService fun c => c.ed)
      (s.calls.active.filter (listed s.line.params s.clock.time.sec (field p 0 2)))
    refine ⟨_, perm, ?order, ?response⟩
    case order =>
      exact (sortBy_pairwise _ (timeThenService_trans _) (timeThenService_total _) _).imp
        fun hcd x y hx hy => timeThenService_of_some hx hy hcd
    case response =>
      rw [exec_calls h hf hl, callsList_set hset, List.length_take, Nat.min_comm]
      congr 4
      refine List.flatMap_congr fun c hc => callsEntry_of_sd ?_
      exact listed_sd (List.mem_filter.1 (perm.mem_iff.1 (List.mem_of_mem_take hc))).2

end Sys2Proof.Machine

/-! Fares (chapter 04): the ranges of the five stages of the fare (R77 to R80), what the loads of the fare table carry
(R72 to R75), and the zone count of a destination after a load (R73). -/

namespace Sys2Proof.Machine

/-! ## The stages of the fare (R77 to R80) -/

section Stages

variable {f : FareTable} (h : FareInv f)
include h

theorem FareInv.zonePrice_le (z : Nat) : zonePrice f.block z ≤ 20000 := by
  rw [zonePrice, List.getD_eq_getElem?_getD]
  cases hz : f.block.zones[z - 1]? with
  | none => simp
  | some x => exact h.prices.2 x (List.mem_of_getElem? hz)

theorem FareInv.kindPercent_le (k : TicketKind) : kindPercent f.block k ≤ 250 := by
  obtain ⟨_, hret, _⟩ := h.percentages
  cases k with
  | single => simp [kindPercent]
  | ret => exact hret
  | dayReturn =>
    have hcut : f.block.ret * (100 - f.block.off) ≤ 250 * 100 := Nat.mul_le_mul hret (Nat.sub_le ..)
    simp only [kindPercent]
    omega

theorem FareInv.afterConcession_le (z : Nat) (k : TicketKind) (c : Concession) :
    afterConcession f.block z k c ≤ 500000000 :=
  calc afterConcession f.block z k c
      ≤ 20000 * 250 * 100 :=
        Nat.mul_le_mul (Nat.mul_le_mul (h.zonePrice_le z) (h.kindPercent_le k)) (Nat.sub_le ..)
    _ = 500000000 := by norm_num

end Stages

theorem roundFare_mod_ten (h : Nat) : roundFare h % 10 = 0 := Nat.mul_mod_left ..

/-- The rounded fare is the multiple of 10 nearest to `h` ten-thousandths; half-way it is the upper one (R79). -/
theorem roundFare_nearest (h : Nat) : 10000 * roundFare h ≤ h + 50000 ∧ h < 10000 * roundFare h + 50000 := by
  unfold roundFare
  omega

theorem roundFare_le {h : Nat} (hh : h ≤ 500000000) : roundFare h ≤ 50000 := by
  unfold roundFare
  omega

theorem FareInv.fareOf_le {f : FareTable} (h : FareInv f) (z : Nat) (k : TicketKind) {c : Concession}
    (hc : c.minimum ≤ 2000) : fareOf f.block z k c ≤ 50000 :=
  max_le (roundFare_le (h.afterConcession_le z k c)) (by omega)

/-- Settles O7: `r` is the rounded fare, whose nearness is `roundFare_nearest`, and the range is that of the product. -/
theorem fareStages : Obligations.FareStages := by
  unfold Obligations.FareStages
  intro f z k c hf _ _ _ hmin
  obtain ⟨hlow, hhigh⟩ := roundFare_nearest (afterConcession f.block z k c)
  exact ⟨roundFare (afterConcession f.block z k c), roundFare_mod_ten _, rfl, hlow, hhigh, rfl,
    hf.fareOf_le z k hmin⟩

/-! ## What the fare loads carry (R72 to R75) -/

theorem optField_octet (p : List Byte) (off : Nat) :
    optField p off 1 = if field p off 1 = 255 then none else some (field p off 1) := rfl

section Carried

variable {addr : Byte} {p : List Byte} {s : State}

theorem exec_loadFareDest (h : takesMessage s .loadFareDest addr p) (hl : p.length = 3) :
    exec (.loadFareDest addr p) s
      = .next (takeFareDest (clamp 1 999 (field p 0 2), min (field p 2 1) 12) (frameDone s)) := by
  have hr : readFareDest p = some (clamp 1 999 (field p 0 2), min (field p 2 1) 12) := by
    simp [readFareDest, ofLength, hl, clamp_zero]
  exact congrArg Host.Outcome.next (onMessage_carried h hr)

theorem exec_loadFarePrice (h : takesMessage s .loadFarePrice addr p) (hl : p.length = 32) :
    exec (.loadFarePrice addr p) s = .next (takeFarePrice
      { zones := (fields p 2 0 12).map fun v => min v 20000
        ret := clamp 100 250 (field p 24 1)
        off := min (field p 25 1) 90
        peakStart := min (field p 26 3) 86399
        peakEnd := min (field p 29 3) 86399 } (frameDone s)) := by
  have hz : clamp 0 20000 = fun v => min v 20000 := funext (clamp_zero 20000)
  refine congrArg Host.Outcome.next (onMessage_carried h ?_)
  simp [readFarePrice, ofLength, hl, clamp_zero, hz, Config.lastSecond]

theorem exec_loadConcession (h : takesMessage s .loadConcession addr p) (hl : p.length = 4) :
    exec (.loadConcession addr p) s = .next (takeConcession
      { code := min (field p 0 1) 7
        slot := if field p 1 1 = 255 then none
          else some { discount := min (field p 1 1) 100, minimum := min (field p 2 2) 2000 } } (frameDone s)) := by
  refine congrArg Host.Outcome.next (onMessage_carried h ?_)
  rw [readConcession, optField_octet]
  split <;> simp [ofLength, hl, clamp_zero]

end Carried

/-! ## The destination list (R67, R73) -/

theorem zoneOf_removed (dests : List (Nat × Nat)) (code c : Nat) :
    zoneOf (dests.filter fun q => q.1 ≠ code) c = if c = code then none else zoneOf dests c := by
  unfold zoneOf
  rw [List.find?_filter]
  split
  next h => simp [h]
  next h =>
    congr 2
    funext q
    by_cases hq : q.1 = c <;> simp [hq, h]

/-- A load changes the zone count of its own code only: to the count it carries, or to none for 0 (R73). -/
theorem zoneOf_loadDest (code zones : Nat) (dests : List (Nat × Nat)) (c : Nat) :
    zoneOf (loadDest code zones dests) c
      = if c ≠ code then zoneOf dests c else if zones = 0 then none else some zones := by
  by_cases hz : zones = 0
  · rw [loadDest, if_pos hz, zoneOf_removed]
    by_cases hc : c = code <;> simp [hc, hz]
  · rw [loadDest, if_neg hz, zoneOf_putDest]
    by_cases hc : c = code <;> simp [hc, hz]

section Checks

variable {s : State}

theorem fareDestOutcome_notHeld (h : s.issue.hold ≠ .held) (code zones : Nat) :
    fareDestOutcome s code zones = .notHeld := by
  simp [fareDestOutcome, h]

theorem fareDestOutcome_accepted (h : s.issue.hold = .held) {code zones : Nat}
    (ha : zones = 0 ∨ (zoneOf s.fares.dests code).isSome = true ∨ s.fares.dests.length < Config.fareDestinations) :
    fareDestOutcome s code zones = .accepted := by
  simp [fareDestOutcome, h, ha, or_assoc]

theorem fareDestOutcome_tableFull (h : s.issue.hold = .held) {code zones : Nat} (hz : zones ≠ 0)
    (hn : zoneOf s.fares.dests code = none) (hf : Config.fareDestinations ≤ s.fares.dests.length) :
    fareDestOutcome s code zones = .tableFull := by
  simp [fareDestOutcome, h, hz, hn, hf]

/-! ## Each load, by the outcome of its checks (R73 to R75) -/

theorem takeFareDest_accepted {f : Nat × Nat} (h : fareDestOutcome s f.1 f.2 = .accepted) :
    takeFareDest f s = offerReply .fareDest .accepted (some f.1)
      { s with fares := { s.fares with dests := loadDest f.1 f.2 s.fares.dests } } := by
  simp [takeFareDest, h]

theorem takeFareDest_refused {f : Nat × Nat} {o : LoadOutcome} (h : fareDestOutcome s f.1 f.2 = o)
    (ho : o ≠ .accepted) :
    takeFareDest f s = offerReply .fareDest o (some f.1) s := by
  simp [takeFareDest, h, ho]

theorem takeConcession_notHeld (h : s.issue.hold ≠ .held) (f : ConcessionFields) :
    takeConcession f s = offerReply .concession .notHeld (some f.code) s := by
  simp [takeConcession, h]

theorem takeConcession_badRecord (h : s.issue.hold = .held) {f : ConcessionFields} (hc : f.code = 0) :
    takeConcession f s = offerReply .concession .badRecord (some 0) s := by
  simp [takeConcession, h, hc]

theorem takeConcession_accepted (h : s.issue.hold = .held) {f : ConcessionFields} (hc : f.code ≠ 0) :
    takeConcession f s = offerReply .concession .accepted (some f.code)
      { s with fares := { s.fares with slots := s.fares.slots.set f.code f.slot } } := by
  simp [takeConcession, h, hc]

end Checks

/-- Settles O8: each load is carried out on its clamped fields (`exec_loadFareDest` and its fellows), by the outcome of
its checks; the new tables are `loadDest` and the slots with one replaced. -/
theorem fareLoads : Obligations.FareLoads := by
  unfold Obligations.FareLoads
  refine ⟨fun addr p s h hl => ?dest, fun addr p s h hl => ?price, fun addr p s h hl => ?concession⟩
  case dest =>
    rw [exec_loadFareDest h hl]
    refine ⟨fun hold => ?notHeld, fun hold ha => ?accepted, fun hold hz hn hf => ?tableFull⟩
    case notHeld =>
      exact congrArg Host.Outcome.next (takeFareDest_refused (fareDestOutcome_notHeld hold _ _) nofun)
    case accepted =>
      exact ⟨_, congrArg Host.Outcome.next (takeFareDest_accepted (fareDestOutcome_accepted hold ha)),
        zoneOf_loadDest _ _ _⟩
    case tableFull =>
      exact congrArg Host.Outcome.next (takeFareDest_refused (fareDestOutcome_tableFull hold hz hn hf) nofun)
  case price =>
    rw [exec_loadFarePrice h hl]
    rfl
  case concession =>
    rw [exec_loadConcession h hl]
    refine ⟨fun hold => ?notHeld, fun hold hc => ?badRecord, fun hold hc hs => ?accepted⟩
    case notHeld => exact congrArg Host.Outcome.next (takeConcession_notHeld (s := frameDone s) hold _)
    case badRecord => exact congrArg Host.Outcome.next (takeConcession_badRecord (s := frameDone s) hold hc)
    case accepted =>
      refine ⟨_, congrArg Host.Outcome.next (takeConcession_accepted (s := frameDone s) hold hc),
        ?_, fun k hk => ?_, ?_⟩
      · rw [List.length_set]
        exact hs
      · exact List.getElem?_set_ne hk.symm
      · exact List.getElem?_set_self (by simp only [frameDone_fares]; omega)

end Sys2Proof.Machine

/-! The acknowledgement of sales (R138, R140, R141): what a SALE_ACK does by where its number stands against the head of the
journal, and the acknowledgement timer of the drain. -/

namespace Sys2Proof.Machine

theorem frameDone_cursor (s : State) : (frameDone s).line.cursor = s.line.cursor := rfl

section SaleAck

variable {s : State} {n : Nat}

/-- A SALE_ACK of an empty journal, or below its head, changes nothing (R141). -/
theorem takeSaleAck_ignored (h : ∀ t ∈ s.issue.journal.head?, n < t.sequence) : takeSaleAck n s = s := by
  unfold takeSaleAck
  split
  next => rfl
  next head _ hj => exact if_pos (h head (by simp [hj]))

/-- The records up to the number, lowered to the highest sent, leave the journal; the cursor and the acknowledgement timer
follow what is left (R138, R141). -/
theorem takeSaleAck_removes {t : Ticket} (ht : s.issue.journal.head? = some t) (hn : t.sequence ≤ n) :
    let kept := s.issue.journal.filter fun x => min n s.line.highestSent < x.sequence
    takeSaleAck n s = { s with
      issue := { s.issue with journal := kept }
      line := { s.line with
        cursor := cursorAfterRemoval kept s.line.cursor
        saleAckTimer := if anySent kept s.line.highestSent then s.line.saleAckTimer else none } } := by
  obtain ⟨_, hj⟩ := List.head?_eq_some_iff.1 ht
  simp [takeSaleAck, hj, hn]

theorem exec_saleAck {addr : Byte} {p : List Byte} (h : takesMessage s .saleAck addr p) (hl : p.length = 4) :
    exec (.saleAck addr p) s = .next (takeSaleAck (field p 0 4) (frameDone s)) :=
  congrArg Host.Outcome.next (onMessage_carried h (if_pos hl))

theorem exec_ackTimerExpiry (h : s.line.saleAckTimer = some 0) :
    exec .ackTimerExpiry s = .next { s with
      line := { s.line with cursor := s.issue.journal.head?.map Ticket.sequence, saleAckTimer := none } } :=
  if_pos h

end SaleAck

/-- Settles O43: a SALE_ACK is carried out on the state its frame leaves (`exec_saleAck`), which has the journal, the cursor
and the highest sent of `s`; it is ignored or removes records by where its number stands against the head. -/
theorem journalAcknowledged : Obligations.JournalAcknowledged := by
  unfold Obligations.JournalAcknowledged
  refine ⟨fun addr p s h hl => ?_, fun s => exec_ackTimerExpiry⟩
  rw [exec_saleAck h hl]
  refine ⟨fun hbelow => ?ignored, fun t ht hn => ?removes⟩
  case ignored => exact congrArg Host.Outcome.next (takeSaleAck_ignored (s := frameDone s) hbelow)
  case removes =>
    rw [takeSaleAck_removes (s := frameDone s) ht hn, frameDone_cursor]
    cases s.line.cursor with
    | none => rfl
    | some k => rfl

end Sys2Proof.Machine

/-! The call an occupancy is attributed to (R157): the calls to choose among, what the order of the choice says of two of
them, and the choice as the head of the sorted list. -/

namespace Sys2Proof.Machine

/-! ## The head of a sorted list -/

section SortedHead

variable {α : Type} {le : α → α → Bool} {l : List α} {a : α}

theorem head?_sortBy_eq_none_iff : (sortBy le l).head? = none ↔ l = [] := by
  rw [List.head?_eq_none_iff, ← List.perm_nil, (sortBy_perm le l).congr_left, List.perm_nil]

theorem mem_of_head?_sortBy (h : (sortBy le l).head? = some a) : a ∈ l :=
  (mem_sortBy le).1 (List.mem_of_head? h)

/-- The head of a sorted list is below every member, for an order that is transitive and total. -/
theorem le_of_head?_sortBy (trans : ∀ a b c, le a b = true → le b c = true → le a c = true)
    (total : ∀ a b, le a b = true ∨ le b a = true) (h : (sortBy le l).head? = some a) {b : α} (hb : b ∈ l) :
    le a b = true := by
  have sorted := sortBy_pairwise le trans total l
  obtain ⟨rest, hl⟩ := List.head?_eq_some_iff.1 h
  have hmem := (mem_sortBy le).2 hb
  rw [hl] at sorted hmem
  rcases List.mem_cons.1 hmem with rfl | hrest
  · exact (total b b).elim id id
  · exact List.rel_of_pairwise_cons sorted hrest

end SortedHead

/-! ## The calls to choose among -/

theorem CallState.isOpen_iff (k : CallState) : k.isOpen = true ↔ k = .scheduled ∨ k = .due := by
  cases k <;> simp [CallState.isOpen]

theorem matchable_iff {window start : Nat} {c : Call} : matchable window start c = true ↔
    (c.state = .scheduled ∨ c.state = .due) ∧ ∃ a, approach c = some a ∧ start ≤ a + window ∧ a ≤ start + window := by
  simp only [matchable, Bool.and_eq_true, CallState.isOpen_iff, Option.any_eq_true, decide_eq_true_eq]

/-- The calls the monitor chooses among, in the order of the ACTIVE bank (R157). -/
def matchables (s : State) (start : Nat) : List Call :=
  s.calls.active.filter (matchable s.line.params.attribution start)

theorem mem_matchables {s : State} {start : Nat} {c : Call} : c ∈ matchables s start ↔
    c ∈ s.calls.active ∧ (c.state = .scheduled ∨ c.state = .due) ∧
      ∃ a, approach c = some a ∧ start ≤ a + s.line.params.attribution ∧ a ≤ start + s.line.params.attribution := by
  rw [matchables, List.mem_filter, matchable_iff]

/-! ## The order of the choice -/

/-- The two truncated differences together are the absolute difference. -/
theorem distance_eq_natAbs {start : Nat} {c : Call} {a : Nat} (h : approach c = some a) :
    distance start c = Int.natAbs ((a : Int) - start) := by
  simp only [distance, h]
  omega

theorem nearer_iff {start : Nat} {c d : Call} : nearer start c d = true ↔
    distance start c < distance start d ∨ (distance start c = distance start d ∧
      (schedApproach c < schedApproach d ∨ (schedApproach c = schedApproach d ∧ c.service ≤ d.service))) := by
  simp only [nearer, Bool.or_eq_true, Bool.and_eq_true, decide_eq_true_eq]

/-! ## The choice -/

section Choice

variable {s : State} {st : Stamp} (hs : s.platform.start = some st)
include hs

theorem attributed_eq_none (h : st.isSet = false ∨ s.platform.dayCrossed = true) : attributed s = none := by
  rcases h with h | h <;> simp [attributed, hs, h]

theorem attributed_eq_head? (hset : st.isSet = true) (hday : s.platform.dayCrossed = false) :
    attributed s = (sortBy (nearer st.time.sec) (matchables s st.time.sec)).head? := by
  simp [attributed, hs, hset, hday, matchables]

end Choice

/-- Settles O10: with the start set and its day not crossed the choice is the head of `matchables` sorted by `nearer`, so it
is absent when there is none to choose among, and is one of them that comes before every other. -/
theorem attributionChoice : Obligations.AttributionChoice := by
  unfold Obligations.AttributionChoice
  intro s st hs
  simp only [← mem_matchables]
  refine ⟨attributed_eq_none hs, fun hset hday => ?_⟩
  rw [attributed_eq_head? hs hset hday]
  refine ⟨?existence, fun c hc => ⟨mem_of_head?_sortBy hc, fun d hd a b ha hb => ?order⟩⟩
  case existence => rw [head?_sortBy_eq_none_iff, List.eq_nil_iff_forall_not_mem]
  case order =>
    have first := le_of_head?_sortBy (nearer_trans _) (nearer_total _) hc hd
    rwa [nearer_iff, distance_eq_natAbs ha, distance_eq_natAbs hb] at first

end Sys2Proof.Machine

/-! What the commands keep: the property of an answer, the invariants that messages and requests carry through, and the form
in which an invariant of every step is proved. -/

namespace Sys2Proof.Machine

-- One theorem at a time: the whole text is checked in one process.
set_option Elab.async false

/-- The outcome is a next state, and that state has the property (95). -/
def Answers (P : State → Prop) (o : Host.Outcome State Fault Refusal) : Prop := ∃ t, o = .next t ∧ P t

section Answers

variable {P Q : State → Prop} {s t : State}

@[simp] theorem answers_next : Answers P (.next t) ↔ P t := by simp [Answers]

theorem answers_ite {g : Prop} [Decidable g] {o q : Host.Outcome State Fault Refusal} (ho : g → Answers P o)
    (hq : ¬ g → Answers P q) : Answers P (if g then o else q) := by
  split
  next h => exact ho h
  next h => exact hq h

/-- A command that its condition guards changes nothing where the condition fails (log 1). -/
theorem answers_guard {g : Prop} [Decidable g] (ht : g → P t) (hs : P s) : Answers P (if g then .next t else .next s) :=
  answers_ite (fun h => answers_next.2 (ht h)) fun _ => answers_next.2 hs

theorem Answers.of_next {o : Host.Outcome State Fault Refusal} (h : Answers P o) (ho : o = .next t) : P t := by
  obtain ⟨u, hu, hP⟩ := h
  rw [ho] at hu
  cases hu
  exact hP

theorem Answers.imp {o : Host.Outcome State Fault Refusal} (h : Answers P o) (hPQ : ∀ t, P t → Q t) : Answers Q o := by
  obtain ⟨t, ho, hP⟩ := h
  exact ⟨t, ho, hPQ t hP⟩

/-- An invariant that does not speak of the queue, and that every command keeps in every state, is kept by every step. -/
theorem step_keeps_of_answers (queue : ∀ (s : State) (q : List Instr), P s → P { s with pending := q })
    (kept : ∀ (c : Instr) (s : State), P s → Answers P (exec c s)) (h : step s = .next t) (hs : P s) : P t :=
  step_keeps queue (fun c s _ he hs => (kept c s hs).of_next he) h hs

end Answers

section Kept

variable {P : State → Prop} {α : Type}

/-- A message keeps what the end of its frame, a malformed payload and its own meaning keep (R127, R135, R136). -/
theorem onMessage_keeps {k : DownKind} {read : List Byte → Option α} {carryOut : α → State → State} {addr : Byte}
    {p : List Byte} {s : State} (done : P s → P (frameDone s)) (malformed : ∀ t, P t → P (onMalformed k t))
    (carried : ∀ v t, read p = some v → P t → P (carryOut v t)) (hs : P s) : P (onMessage k read carryOut addr p s) := by
  rcases onMessage_cases k read carryOut addr p s with h | h | ⟨-, -, h⟩ | ⟨-, v, hv, h⟩ <;> rw [h]
  · exact hs
  · exact done hs
  · exact malformed _ (done hs)
  · exact carried v _ hv (done hs)

/-- Octets shifted in change of a port its framing state and its octets alone (R187). -/
theorem PortState.shiftIn_kept {β : Type} (g : PortState → β) (hg : ∀ p f o, g { p with framing := f, octets := o } = g p)
    (bs : List Byte) (p : PortState) : g (p.shiftIn bs) = g p := by
  induction bs generalizing p with
  | nil => rfl
  | cons b bs ih =>
    refine (ih (p.octetIn b)).trans ?_
    unfold PortState.octetIn
    split
    · split
      · exact hg p _ p.octets
      · exact hg p _ _
    · split
      · exact hg p p.framing _
      · rfl
    · rfl
    · rfl

/-- A port that takes a transaction, once SEL has risen again: only its framing is new (R187). -/
theorem selRises_shiftIn {s : State} {port : Port} (h : listening s port = true) (octets : List Byte) :
    selRises port (setPort s port ((portOf s port).selFalls.shiftIn octets)) = setPort s port (portOf s port).idle := by
  have falls : (portOf s port).selFalls.held = (portOf s port).held ∧ (portOf s port).selFalls.idle = (portOf s port).idle := by
    unfold PortState.selFalls
    split <;> exact ⟨rfl, rfl⟩
  have held := (PortState.shiftIn_kept PortState.held (fun _ _ _ => rfl) octets (portOf s port).selFalls).trans falls.1
  have idle := (PortState.shiftIn_kept PortState.idle (fun _ _ _ => rfl) octets (portOf s port).selFalls).trans falls.2
  exact (selRises_setPort s port _ held h).trans (congrArg (setPort s port) idle)

/-- A transaction keeps what its own meaning and every sound change of its port keep (R187). -/
theorem onTransaction_keeps {port : Port} {octets : List Byte} {take : List Byte → State → State} {s : State}
    (ports : ∀ t q, (PortInv port (portOf t port) → PortInv port q) → P t → P (setPort t port q))
    (taken : ∀ kept t, P t → P (take kept t)) (hs : P s) : P (onTransaction port octets take s) := by
  have idle : P (setPort s port (portOf s port).idle) := ports s _ (fun h => ⟨h.notices, h.mask, .inl rfl, rfl⟩) hs
  unfold onTransaction
  split
  next h =>
    dsimp only
    rw [selRises_shiftIn h]
    split
    · exact taken _ _ idle
    · exact taken _ _ idle
    · exact idle
    · exact idle
  next h =>
    have rises : selRises port s = setPort s port { portOf s port with selLow := false } := by simp [selRises, h]
    rw [rises]
    exact ports s _ (fun hp => ⟨hp.notices, hp.mask, hp.framing, hp.octets⟩) hs

/-- A request keeps what a change of its port and its own meaning keep (R188). -/
theorem onRequest_keeps {cmd : Command} {read : List Byte → Option α} {carryOut : α → State → State} {port : Port}
    {req : Request} {s : State} (ports : ∀ t q, (PortInv port (portOf t port) → PortInv port q) → P t → P (setPort t port q))
    (carried : ∀ v t, P t → P (carryOut v t)) (hs : P s) : P (onRequest cmd read carryOut port req s) := by
  refine onTransaction_keeps ports (fun kept t ht => ?_) hs
  have refused : ∀ st, P (refuse port st t) := fun st =>
    ports t _ (fun h => ⟨h.notices, h.mask, h.framing, h.octets⟩) ht
  split
  · exact refused _
  · split
    · exact refused _
    · split
      · exact refused _
      · exact carried _ _ ht

end Kept

end Sys2Proof.Machine

/-! The call table, its stop requests and the sale bound to a call (R1 to R24, R81, R89, R100, R132): one invariant for the
banks, the stops and the sale, with what an operation may leave open while it is under way, and what each shared operation
does to it. -/

namespace Sys2Proof.Machine

-- One theorem at a time: the whole text is checked in one process.
set_option Elab.async false

/-! ## The invariant -/

/-- What the invariants leave open in the middle of an operation: the calls that have left the saleable states and whose
leaving (R17) is still to come, the call whose kind has become STOPS and whose stop is still to be cleared (R10), and a sale
that has been removed while the hold still waits for it (R102). -/
structure Slack where
  gone : List Nat := []
  odd : List Nat := []
  ending : Bool := false

/-- `StopFields`, with what is left open. -/
structure StopFieldsBut (k : Slack) (c : Call) : Prop where
  stops : c.kind = .stops → c.stop = .none ∨ c.service ∈ k.odd
  origin : c.origin.isNone = decide (c.stop = .none)
  wantedAt : c.wantedAt.isNone = decide (c.stop = .none)
  ackTimer : c.ackTimer.isSome = true → c.stop = .sent ∧ (c.state.saleable = true ∨ c.service ∈ k.gone)

/-- A queued STOP_REQUEST is that of this call, with what is left open. -/
def Asks (k : Slack) (i : Item) (c : Call) : Prop :=
  (c.kind = .request ∨ c.service ∈ k.odd) ∧ c.stop = .wanted ∧ (c.state.saleable = true ∨ c.service ∈ k.gone) ∧
    i = stopItem c

/-- The queues of the line against a bank: `StopInv` but for the fields of the calls, with what is left open. -/
structure QueuedStops (k : Slack) (bank : List Call) (l : Line) : Prop where
  queued : ∀ i ∈ l.urgent, ∀ n ∈ i.stopOf, ∃ c ∈ bank, c.service = n ∧ Asks k i c
  once : (l.urgent.filterMap Item.stopOf).Nodup
  routine : ∀ i ∈ l.routine, i.stopOf = none
  head : ∀ f ∈ l.tx, f.atHead l

/-- `SaleInv`, with what is left open. -/
structure SaleBut (k : Slack) (s : State) : Prop where
  held : s.issue.hold = .held → s.issue.sale = none
  asked : s.issue.hold = .asked → s.issue.sale.isSome = true ∨ k.ending = true
  unset : s.clock.timeState = .unset → s.issue.sale = none
  limit : s.issue.limitTimer.isSome = decide (s.issue.hold = .held)
  bound : ∀ x ∈ s.issue.sale, x.state = .quoted → ∀ n ∈ x.call,
    ∃ c ∈ s.calls.active, c.service = n ∧ (c.state.saleable = true ∨ n ∈ k.gone)

/-- The banks are sound; so are the stops, if they are asked about, and the sale and the hold, if they are. -/
structure TableInv (stops sales : Prop) (k : Slack) (s : State) : Prop where
  bank : BankInv s
  fields : stops → ∀ c ∈ s.calls.active, StopFieldsBut k c
  queue : stops → QueuedStops k s.calls.active s.line
  sale : sales → SaleBut k s

/-- Nothing is left open. -/
def Slack.none : Slack := {}

theorem stopInv_iff {s : State} :
    StopInv s ↔ (∀ c ∈ s.calls.active, StopFieldsBut .none c) ∧ QueuedStops .none s.calls.active s.line := by
  constructor
  · intro h
    refine ⟨fun c hc => ?_, ⟨fun i hi n hn => ?_, h.once, h.routine, h.head⟩⟩
    · obtain ⟨hs, ho, hw, ha⟩ := h.fields c hc
      exact ⟨fun hk => Or.inl (hs hk), ho, hw, fun ht => ⟨(ha ht).1, Or.inl (ha ht).2⟩⟩
    · obtain ⟨c, hc, hsv, hk, hst, hsl, he⟩ := h.queued i hi n hn
      exact ⟨c, hc, hsv, Or.inl hk, hst, Or.inl hsl, he⟩
  · rintro ⟨hf, hq⟩
    refine ⟨fun c hc => ?_, fun i hi n hn => ?_, hq.once, hq.routine, hq.head⟩
    · obtain ⟨hs, ho, hw, ha⟩ := hf c hc
      exact ⟨fun hk => (hs hk).resolve_right List.not_mem_nil, ho, hw,
        fun ht => ⟨(ha ht).1, (ha ht).2.resolve_right List.not_mem_nil⟩⟩
    · obtain ⟨c, hc, hsv, hk, hst, hsl, he⟩ := hq.queued i hi n hn
      exact ⟨c, hc, hsv, hk.resolve_right List.not_mem_nil, hst, hsl.resolve_right List.not_mem_nil, he⟩

theorem saleInv_iff {s : State} : SaleInv s ↔ SaleBut .none s := by
  constructor
  · rintro ⟨h1, h2, h3, h4, h5⟩
    refine ⟨h1, fun h => Or.inl (h2 h), h3, h4, fun x hx hq n hn => ?_⟩
    obtain ⟨c, hc, hsv, hsl⟩ := h5 x hx hq n hn
    exact ⟨c, hc, hsv, Or.inl hsl⟩
  · rintro ⟨h1, h2, h3, h4, h5⟩
    refine ⟨h1, fun h => (h2 h).resolve_right nofun, h3, h4, fun x hx hq n hn => ?_⟩
    obtain ⟨c, hc, hsv, hsl⟩ := h5 x hx hq n hn
    exact ⟨c, hc, hsv, hsl.resolve_right List.not_mem_nil⟩

/-! ## Banks -/

/-- A bank is judged by its scheduled fields alone. -/
theorem GoodBank.of_schedules {b d : List Call} (h : GoodBank b) (e : d.map Call.toScheduled = b.map Call.toScheduled) :
    GoodBank d := by
  have hs : ∀ l : List Call, (l.Pairwise fun x y => x.service < y.service)
      ↔ (l.map Call.toScheduled).Pairwise fun x y => x.service < y.service := fun l => by rw [List.pairwise_map]
  refine ⟨(hs d).2 (e ▸ (hs b).1 h.sorted), ?_, fun c hc => ?_⟩
  · rw [← List.length_map Call.toScheduled, e, List.length_map]
    exact h.size
  · obtain ⟨x, hx, hxc⟩ := List.mem_map.1 (e ▸ List.mem_map_of_mem (f := Call.toScheduled) hc)
    exact hxc ▸ h.inRange x hx

theorem GoodBank.nil : GoodBank [] := ⟨List.Pairwise.nil, by simp, by simp⟩

theorem GoodBank.map {b : List Call} (h : GoodBank b) {f : Call → Call} (hf : ∀ c, (f c).toScheduled = c.toScheduled) :
    GoodBank (b.map f) :=
  h.of_schedules (by rw [List.map_map]; exact List.map_congr_left fun c _ => hf c)

/-- A service number stands for one call of a sound bank. -/
theorem GoodBank.unique {b : List Call} (h : GoodBank b) {c d : Call} (hc : c ∈ b) (hd : d ∈ b)
    (e : c.service = d.service) : c = d := by
  have h1 := bankFind_mem h.sorted hc
  rw [e, bankFind_mem h.sorted hd] at h1
  exact (Option.some.inj h1).symm

theorem GoodBank.find {b : List Call} (h : GoodBank b) {c : Call} (hc : c ∈ b) : bankFind c.service b = some c :=
  bankFind_mem h.sorted hc

/-- A test of the call of a service number is a test of the record that carries it. -/
theorem GoodBank.find_any {b : List Call} (h : GoodBank b) {c : Call} (hc : c ∈ b) (p : Call → Bool) :
    (bankFind c.service b).any p = p c := by rw [h.find hc]; rfl

theorem bankFind_any {b : List Call} {n : Nat} {p : Call → Bool} (h : (bankFind n b).any p = true) :
    ∃ c ∈ b, c.service = n ∧ p c = true := by
  obtain ⟨c, hc, hp⟩ := Option.any_eq_true _ _ |>.1 h
  exact ⟨c, (bankFind_some hc).1, (bankFind_some hc).2, hp⟩

/-! ## What an operation on the calls may change -/

/-- A call after an operation that takes no stop of it: only its leaving the saleable states is left open. -/
structure KeepsStop (k : Slack) (c d : Call) : Prop where
  sched : d.toScheduled = c.toScheduled
  stop : d.stop = c.stop
  origin : d.origin = c.origin
  wantedAt : d.wantedAt = c.wantedAt
  timer : d.ackTimer.isSome = true → c.ackTimer.isSome = true
  state : c.state.saleable = true → d.state.saleable = true ∨ c.service ∈ k.gone

theorem KeepsStop.refl (k : Slack) (c : Call) : KeepsStop k c c := ⟨rfl, rfl, rfl, rfl, id, Or.inl⟩

section KeepsStop

variable {k : Slack} {c d : Call} (h : KeepsStop k c d)
include h

theorem KeepsStop.service : d.service = c.service := congrArg Scheduled.service h.sched
theorem KeepsStop.kind : d.kind = c.kind := congrArg Scheduled.kind h.sched

theorem KeepsStop.still {P : Prop} (hc : c.state.saleable = true ∨ P) (hP : P → d.state.saleable = true ∨ c.service ∈ k.gone) :
    d.state.saleable = true ∨ c.service ∈ k.gone := hc.elim h.state hP

theorem KeepsStop.fields (hc : StopFieldsBut k c) : StopFieldsBut k d := by
  obtain ⟨hs, ho, hw, ha⟩ := hc
  refine ⟨?_, ?_, ?_, fun ht => ?_⟩
  · rw [h.kind, h.stop, h.service]; exact hs
  · rw [h.origin, h.stop]; exact ho
  · rw [h.wantedAt, h.stop]; exact hw
  · rw [h.stop, h.service]
    exact ⟨(ha (h.timer ht)).1, h.still (ha (h.timer ht)).2 Or.inr⟩

theorem KeepsStop.asks {i : Item} (hc : Asks k i c) : Asks k i d := by
  obtain ⟨hk, hs, hsl, hi⟩ := hc
  refine ⟨?_, ?_, ?_, ?_⟩
  · rw [h.kind, h.service]; exact hk
  · rw [h.stop]; exact hs
  · rw [h.service]; exact h.still hsl Or.inr
  · rw [hi, stopItem, stopItem, h.service, h.origin, h.wantedAt]

end KeepsStop

/-- All that the invariant asks of an operation on a call that changes none of its scheduled fields. -/
structure CallKept (k : Slack) (c d : Call) : Prop where
  sched : d.toScheduled = c.toScheduled
  fields : StopFieldsBut k c → StopFieldsBut k d
  asks : ∀ i, StopFieldsBut k c → Asks k i c → Asks k i d
  state : c.state.saleable = true → d.state.saleable = true ∨ c.service ∈ k.gone

theorem KeepsStop.kept {k : Slack} {c d : Call} (h : KeepsStop k c d) : CallKept k c d :=
  ⟨h.sched, h.fields, fun _ _ => h.asks, h.state⟩

theorem CallKept.refl (k : Slack) (c : Call) : CallKept k c c := ⟨rfl, id, fun _ _ => id, Or.inl⟩

theorem CallKept.service {k : Slack} {c d : Call} (h : CallKept k c d) : d.service = c.service :=
  congrArg Scheduled.service h.sched

section Weaken

variable {k m : Slack} (gone : ∀ n ∈ k.gone, n ∈ m.gone) (odd : ∀ n ∈ k.odd, n ∈ m.odd)
include gone odd

theorem StopFieldsBut.mono {c : Call} (h : StopFieldsBut k c) : StopFieldsBut m c :=
  ⟨fun hk => (h.stops hk).imp id (odd _), h.origin, h.wantedAt,
    fun ht => ⟨(h.ackTimer ht).1, (h.ackTimer ht).2.imp id (gone _)⟩⟩

theorem Asks.mono {i : Item} {c : Call} (h : Asks k i c) : Asks m i c :=
  ⟨h.1.imp id (odd _), h.2.1, h.2.2.1.imp id (gone _), h.2.2.2⟩

theorem QueuedStops.mono {b : List Call} {l : Line} (h : QueuedStops k b l) : QueuedStops m b l :=
  ⟨fun i hi n hn => (h.queued i hi n hn).imp fun _ ⟨hc, hs, ha⟩ => ⟨hc, hs, ha.mono gone odd⟩, h.once, h.routine,
    h.head⟩

end Weaken

theorem SaleBut.mono {k m : Slack} {s : State} (h : SaleBut k s) (gone : ∀ n ∈ k.gone, n ∈ m.gone)
    (ending : k.ending = true → m.ending = true) : SaleBut m s :=
  ⟨h.held, fun ha => (h.asked ha).imp id ending, h.unset, h.limit,
    fun x hx hq n hn => (h.bound x hx hq n hn).imp fun _ ⟨hc, hs, ha⟩ => ⟨hc, hs, ha.imp id (gone _)⟩⟩

theorem TableInv.mono {stops sales : Prop} {k m : Slack} {s : State} (h : TableInv stops sales k s)
    (gone : ∀ n ∈ k.gone, n ∈ m.gone) (odd : ∀ n ∈ k.odd, n ∈ m.odd) (ending : k.ending = true → m.ending = true) :
    TableInv stops sales m s :=
  ⟨h.bank, fun hs c hc => (h.fields hs c hc).mono gone odd, fun hs => (h.queue hs).mono gone odd,
    fun hs => (h.sale hs).mono gone ending⟩

theorem TableInv.of_none {stops sales : Prop} {k : Slack} {s : State} (h : TableInv stops sales .none s) :
    TableInv stops sales k s := h.mono nofun nofun nofun

theorem BankInv.congr {s t : State} (h : BankInv s) (calls : t.calls = s.calls) : BankInv t :=
  ⟨calls ▸ h.active, calls ▸ h.next, calls ▸ h.empty⟩

/-! ## Operations on the calls -/

section Table

variable {stops sales : Prop} {k : Slack} {s t : State}

/-- The invariant speaks of the banks, the urgent and the routine queue, the place of the frame in progress at their heads,
and of what `SaleBut` does. -/
theorem TableInv.resale {m : Slack} (h : TableInv stops sales k s) (calls : t.calls = s.calls)
    (urgent : t.line.urgent = s.line.urgent) (routine : t.line.routine = s.line.routine)
    (tx : (∀ f ∈ s.line.tx, f.atHead s.line) → ∀ f ∈ t.line.tx, f.atHead t.line)
    (gone : ∀ n ∈ k.gone, n ∈ m.gone) (odd : ∀ n ∈ k.odd, n ∈ m.odd) (sale : SaleBut k s → SaleBut m t) :
    TableInv stops sales m t :=
  ⟨h.bank.congr calls, fun hs c hc => (h.fields hs c (calls ▸ hc)).mono gone odd,
    fun hs =>
      have q := (h.queue hs).mono gone odd
      ⟨by rw [urgent, calls]; exact q.queued, urgent ▸ q.once, routine ▸ q.routine, tx q.head⟩,
    fun hs => sale (h.sale hs)⟩

theorem TableInv.congr (h : TableInv stops sales k s) (calls : t.calls = s.calls) (urgent : t.line.urgent = s.line.urgent)
    (routine : t.line.routine = s.line.routine)
    (tx : (∀ f ∈ s.line.tx, f.atHead s.line) → ∀ f ∈ t.line.tx, f.atHead t.line)
    (sale : SaleBut k s → SaleBut k t) : TableInv stops sales k t :=
  h.resale calls urgent routine tx (fun _ => id) (fun _ => id) sale

theorem SaleBut.congr (h : SaleBut k s) (calls : t.calls.active = s.calls.active) (hold : t.issue.hold = s.issue.hold)
    (sale : t.issue.sale = s.issue.sale) (limit : t.issue.limitTimer.isSome = s.issue.limitTimer.isSome)
    (set : t.clock.timeState = .unset → s.clock.timeState = .unset) : SaleBut k t :=
  ⟨by rw [hold, sale]; exact h.held, by rw [hold, sale]; exact h.asked, fun hu => sale ▸ h.unset (set hu),
    by rw [limit, hold]; exact h.limit, by rw [calls, sale]; exact h.bound⟩

/-- Blocks the invariant does not speak of. -/
theorem TableInv.other (h : TableInv stops sales k s) (calls : t.calls = s.calls) (line : t.line = s.line)
    (issue : t.issue = s.issue) (set : t.clock.timeState = .unset → s.clock.timeState = .unset) :
    TableInv stops sales k t :=
  h.congr calls (by rw [line]) (by rw [line]) (by rw [line]; exact id) fun hs =>
    hs.congr (by rw [calls]) (by rw [issue]) (by rw [issue]) (by rw [issue]) set

/-- The line, its queues and its frame apart. -/
theorem TableInv.line (h : TableInv stops sales k s) {l : Line} (urgent : l.urgent = s.line.urgent)
    (routine : l.routine = s.line.routine) (tx : (∀ f ∈ s.line.tx, f.atHead s.line) → ∀ f ∈ l.tx, f.atHead l) :
    TableInv stops sales k { s with line := l } :=
  h.congr rfl urgent routine tx fun hs => hs.congr rfl rfl rfl rfl id

/-- An operation on each call of the ACTIVE bank. -/
theorem TableInv.mapActive (h : TableInv stops sales k s) {f : Call → Call}
    (hf : ∀ c ∈ s.calls.active, CallKept k c (f c)) : TableInv stops sales k (s.mapActive f) := by
  refine ⟨⟨?_, h.bank.next, h.bank.empty⟩, fun hs c hc => ?_, fun hs => ⟨fun i hi n hn => ?_, (h.queue hs).once,
    (h.queue hs).routine, (h.queue hs).head⟩, fun hs => ⟨(h.sale hs).held, (h.sale hs).asked, (h.sale hs).unset,
    (h.sale hs).limit, fun x hx hq n hn => ?_⟩⟩
  · refine h.bank.active.of_schedules ?_
    rw [State.mapActive_active, List.map_map]
    exact List.map_congr_left fun c hc => (hf c hc).sched
  · obtain ⟨d, hd, rfl⟩ := List.mem_map.1 hc
    exact (hf d hd).fields (h.fields hs d hd)
  · obtain ⟨c, hc, hsv, ha⟩ := (h.queue hs).queued i hi n hn
    exact ⟨f c, List.mem_map_of_mem hc, (hf c hc).service.trans hsv, (hf c hc).asks i (h.fields hs c hc) ha⟩
  · obtain ⟨c, hc, hsv, hsl⟩ := (h.sale hs).bound x hx hq n hn
    exact ⟨f c, List.mem_map_of_mem hc, (hf c hc).service.trans hsv,
      hsl.elim (fun hc' => hsv ▸ (hf c hc).state hc') Or.inr⟩

/-- An operation on the call of one service number. -/
theorem TableInv.mapCall (h : TableInv stops sales k s) {n : Nat} {f : Call → Call}
    (hf : ∀ c ∈ s.calls.active, c.service = n → CallKept k c (f c)) : TableInv stops sales k (s.mapCall n f) :=
  h.mapActive fun c hc => by
    split
    next e => exact hf c hc e
    next => exact CallKept.refl k c

end Table

theorem recompute_keepsStop (k : Slack) (c : Call) : KeepsStop k c (recompute c) := by
  have same : ∀ ea ed beyond, KeepsStop k c { c with ea := ea, ed := ed, beyond := beyond } :=
    fun _ _ _ => ⟨rfl, rfl, rfl, rfl, id, Or.inl⟩
  have before : KeepsStop k c (beforeArrival c) := by
    unfold beforeArrival
    split <;> exact same _ _ _
  unfold recompute
  split
  · exact same _ _ _
  · exact same _ _ _
  · exact before

end Sys2Proof.Machine

/-! What the shared operations on the calls, the queues and the sale do to the invariant of the call table. -/

namespace Sys2Proof.Machine

-- One theorem at a time: the whole text is checked in one process.
set_option Elab.async false

/-! ## The frame in progress and the heads of the queues (R114, R118, R132) -/

theorem TxFrame.atHead.of_heads {f : TxFrame} {l m : Line} (h : f.atHead l)
    (urgent : ∀ i, l.urgent.head? = some i → m.urgent.head? = some i)
    (routine : ∀ i, l.routine.head? = some i → m.routine.head? = some i) : f.atHead m := by
  unfold TxFrame.atHead at h ⊢
  split at h
  · exact fun hq => urgent _ (h hq)
  · exact fun hq => routine _ (h hq)
  · exact h
  · exact h

/-- A frame that is not at its item is at the head of nothing. -/
theorem TxFrame.atHead_of_not_queued {f : TxFrame} {l : Line} (h : f.queued = false) : f.atHead l := by
  unfold TxFrame.atHead
  split <;> simp [h]

/-- A frame with the same source that is queued only if the other is. -/
theorem TxFrame.atHead.of_frame {f g : TxFrame} {l : Line} (h : f.atHead l) (source : g.source = f.source)
    (queued : g.queued = f.queued) : g.atHead l := by
  unfold TxFrame.atHead at h ⊢
  rw [source, queued]
  exact h

/-- A frame that does not carry the head of the urgent queue does not depend on it. -/
theorem TxFrame.atHead.of_not_urgent {f : TxFrame} {l m : Line} (h : f.atHead l) (hu : f.carriesUrgent = false)
    (routine : ∀ i, l.routine.head? = some i → m.routine.head? = some i) : f.atHead m := by
  unfold TxFrame.atHead at h ⊢
  split at h
  next hs =>
    intro hq
    simp [TxFrame.carriesUrgent, hs, hq] at hu
  · exact fun hq => routine _ (h hq)
  · exact h
  · exact h

theorem headRemoved_atHead {l m : Line} (h : ∀ f ∈ l.tx, f.atHead l) (routine : m.routine = l.routine)
    (tx : m.tx = headRemoved l.tx) : ∀ f ∈ m.tx, f.atHead m := by
  intro f hf
  rw [tx] at hf
  obtain ⟨g, hg, rfl⟩ := Option.map_eq_some_iff.1 hf
  split
  next => exact TxFrame.atHead_of_not_queued rfl
  next hc => exact (h g hg).of_not_urgent (by simpa using hc) (by rw [routine]; exact fun _ => id)

theorem Line.removeStop_atHead {l : Line} (n : Nat) (h : ∀ f ∈ l.tx, f.atHead l) :
    ∀ f ∈ (l.removeStop n).tx, f.atHead (l.removeStop n) := by
  by_cases hh : l.urgent.head?.any (Item.isStopFor n) = true
  · exact headRemoved_atHead h rfl (by rw [Line.removeStop]; exact if_pos hh)
  · intro f hf
    rw [Line.removeStop, if_neg hh] at hf
    refine (h f hf).of_heads (fun i hi => ?_) fun _ => id
    obtain ⟨rest, hr⟩ := List.head?_eq_some_iff.1 hi
    have : i.isStopFor n = false := by simpa [hi] using hh
    simp [Line.removeStop, hr, this]

/-! ## The queues -/

section Queues

variable {k : Slack} {bank : List Call} {l m : Line}

theorem QueuedStops.of_queues (h : QueuedStops k bank l) (urgent : m.urgent = l.urgent) (routine : m.routine = l.routine)
    (head : ∀ f ∈ m.tx, f.atHead m) : QueuedStops k bank m :=
  ⟨urgent ▸ h.queued, urgent ▸ h.once, routine ▸ h.routine, head⟩

/-- An item that is no STOP_REQUEST is offered (R131). -/
theorem QueuedStops.enqueue (h : QueuedStops k bank l) (c : AccessClass) {i : Item} (hi : i.stopOf = none) :
    QueuedStops k bank (l.enqueue c i) := by
  have grown : ∀ (q : List Item) j, q.head? = some j → (q ++ [i]).head? = some j := by
    rintro (_ | ⟨a, q⟩) j hj
    · simp at hj
    · simpa using hj
  rcases Line.enqueue_cases c i l with ⟨-, -, e⟩ | ⟨-, -, e⟩ | ⟨-, e⟩ <;> rw [e]
  · refine ⟨fun j hj n hn => ?_, ?_, h.routine, fun f hf => (h.head f hf).of_heads (grown _) fun _ => id⟩
    · rcases List.mem_append.1 hj with hj | hj
      · exact h.queued j hj n hn
      · rw [List.mem_singleton.1 hj, hi] at hn
        simp at hn
    · simpa [List.filterMap_append, hi] using h.once
  · refine ⟨h.queued, h.once, fun j hj => ?_, fun f hf => (h.head f hf).of_heads (fun _ => id) (grown _)⟩
    rcases List.mem_append.1 hj with hj | hj
    · exact h.routine j hj
    · rw [List.mem_singleton.1 hj, hi]
  · exact h.of_queues rfl rfl fun f hf => (h.head f hf).of_heads (fun _ => id) fun _ => id

theorem dropOldestOther_sublist (l : List Item) : (dropOldestOther l).Sublist l := by
  induction l with
  | nil => exact List.Sublist.slnil
  | cons i l ih =>
    unfold dropOldestOther
    split
    · exact ih.cons_cons i
    · exact List.sublist_cons_self i l

theorem Item.stopOf_stopItem (c : Call) : (stopItem c).stopOf = some c.service := rfl

/-- The urgent queue takes the STOP_REQUEST of a call that has none there, some of its other items having left it. -/
theorem QueuedStops.offer (h : QueuedStops k bank l) {c : Call} (hc : c ∈ bank) (ha : Asks k (stopItem c) c)
    (hn : ∀ i ∈ l.urgent, i.stopOf ≠ some c.service) {q : List Item} (hq : q.Sublist l.urgent)
    (urgent : m.urgent = q ++ [stopItem c]) (routine : m.routine = l.routine) (head : ∀ f ∈ m.tx, f.atHead m) :
    QueuedStops k bank m := by
  refine ⟨fun i hi n hin => ?_, ?_, by rw [routine]; exact h.routine, head⟩
  · rw [urgent] at hi
    rcases List.mem_append.1 hi with hi | hi
    · exact h.queued i (hq.subset hi) n hin
    · rw [List.mem_singleton.1 hi] at hin ⊢
      exact ⟨c, hc, Option.some.inj hin, ha⟩
  · rw [urgent, List.filterMap_append, List.nodup_append]
    refine ⟨h.once.sublist (hq.filterMap _), List.nodup_singleton c.service, fun a ha b hb => ?_⟩
    obtain ⟨i, hi, hia⟩ := List.mem_filterMap.1 ha
    have hb' : b = c.service := List.mem_singleton.1 hb
    rintro rfl
    exact hn i (hq.subset hi) (hb' ▸ hia)

theorem Line.offerStop_queues {i : Item} (h : l.offerStop i = some m) (head : ∀ f ∈ l.tx, f.atHead l) :
    (∃ q, q.Sublist l.urgent ∧ m.urgent = q ++ [i]) ∧ m.routine = l.routine ∧ ∀ f ∈ m.tx, f.atHead m := by
  have grown : ∀ (q : List Item) j, q.head? = some j → (q ++ [i]).head? = some j := by
    rintro (_ | ⟨a, q⟩) j hj
    · simp at hj
    · simpa using hj
  rcases Line.offerStop_cases i l with ⟨-, e⟩ | ⟨-, -, e⟩ | ⟨-, -, e⟩ <;> rw [e] at h <;> cases h
  · exact ⟨⟨_, List.Sublist.refl _, rfl⟩, rfl, fun f hf => (head f hf).of_heads (grown _) fun _ => id⟩
  · refine ⟨⟨_, dropOldestOther_sublist _, rfl⟩, rfl, ?_⟩
    by_cases hs : l.urgent.head?.any Item.isStop = true
    · intro f hf
      change f ∈ (if _ then _ else _) at hf
      rw [if_pos hs] at hf
      refine (head f hf).of_heads (fun j hj => grown _ j ?_) fun _ => id
      obtain ⟨rest, hr⟩ := List.head?_eq_some_iff.1 hj
      have : j.isStop = true := by simpa [hj] using hs
      simp [hr, dropOldestOther, this]
    · exact headRemoved_atHead head rfl (if_neg hs)

/-- The calls that wait, each with no STOP_REQUEST queued, are offered one after another (R20, R132). -/
theorem QueuedStops.offerAll {cs : List Call} (h : QueuedStops k bank l) (hd : cs.Pairwise fun c d => c.service ≠ d.service)
    (hc : ∀ c ∈ cs, c ∈ bank ∧ Asks k (stopItem c) c ∧ ∀ i ∈ l.urgent, i.stopOf ≠ some c.service) :
    QueuedStops k bank (Line.offerAll cs l) := by
  induction cs generalizing l with
  | nil => exact h
  | cons c cs ih =>
    unfold Line.offerAll
    split
    next m hm =>
      rw [List.pairwise_cons] at hd
      obtain ⟨hmem, ha, hn⟩ := hc c List.mem_cons_self
      obtain ⟨⟨q, hq, hu⟩, hr, hh⟩ := Line.offerStop_queues hm h.head
      refine ih (h.offer hmem ha hn hq hu hr hh) hd.2 fun d hdm => ?_
      obtain ⟨hmd, had, hnd⟩ := hc d (List.mem_cons_of_mem _ hdm)
      refine ⟨hmd, had, fun i hi => ?_⟩
      rw [hu] at hi
      rcases List.mem_append.1 hi with hi | hi
      · exact hnd i (hq.subset hi)
      · rw [List.mem_singleton.1 hi, Item.stopOf_stopItem]
        exact fun e => hd.1 d hdm (Option.some.inj e)
    next => exact h

end Queues

/-! ## Leaving the saleable states (R17) -/

/-- A QUOTED sale bound to a call (R89). -/
def Sale.boundTo (n : Nat) (x : Sale) : Bool := x.state = .quoted && x.call = some n

/-- The sale after a void for a service number (R89). -/
def Sale.voidFor (n : Nat) (x : Sale) : Sale := if x.boundTo n then { x with state := .void } else x

theorem voidSale_issue (n : Nat) (s : State) :
    (voidSale n s).issue = { s.issue with sale := s.issue.sale.map (Sale.voidFor n) } := by
  obtain ⟨_, _, _, _, issue, _, _, _, _, _, _, _⟩ := s
  obtain ⟨sale, _, _, _, _, _, _, _⟩ := issue
  cases sale with
  | none => rfl
  | some x => by_cases h : x.state = .quoted ∧ x.call = some n <;> simp [voidSale, Sale.voidFor, Sale.boundTo, h]

theorem voidSale_vport (n : Nat) (s : State) : (voidSale n s).vport
    = if s.issue.sale.any (Sale.boundTo n) then s.vport.latch VNotice.quoteVoid.bit else s.vport := by
  cases hs : s.issue.sale with
  | none => simp [voidSale, hs]
  | some x => by_cases h : x.state = .quoted ∧ x.call = some n <;> simp [voidSale, hs, Sale.boundTo, h]

theorem leaveSaleable_issue (n : Nat) (s : State) :
    (leaveSaleable n s).issue = { s.issue with sale := s.issue.sale.map (Sale.voidFor n) } := by
  simp [leaveSaleable, voidSale_issue]

theorem leaveSaleable_vport (n : Nat) (s : State) : (leaveSaleable n s).vport
    = if s.issue.sale.any (Sale.boundTo n) then s.vport.latch VNotice.quoteVoid.bit else s.vport := by
  simp [leaveSaleable, voidSale_vport]

@[simp] theorem leaveSaleable_line (n : Nat) (s : State) : (leaveSaleable n s).line = s.line.removeStop n := by
  simp [leaveSaleable]

theorem leaveSaleable_calls (n : Nat) (s : State) : (leaveSaleable n s).calls = { s.calls with
    active := s.calls.active.map fun c => if c.service = n then { c with ackTimer := none } else c } := by
  simp [leaveSaleable, State.mapCall, State.mapActive]

theorem Sale.voidFor_call (n : Nat) (x : Sale) : (x.voidFor n).call = x.call := by
  unfold Sale.voidFor
  split <;> rfl

theorem Sale.voidFor_quoted {n m : Nat} {x : Sale} (h : (x.voidFor n).state = .quoted) (hm : x.call = some m) :
    x.state = .quoted ∧ m ≠ n := by
  unfold Sale.voidFor at h
  split at h
  next => cases h
  next hb =>
    refine ⟨h, ?_⟩
    rintro rfl
    exact hb (by simp [Sale.boundTo, h, hm])

theorem stopOf_of_removeStop {n : Nat} {l : Line} {i : Item} (h : i ∈ (l.removeStop n).urgent) :
    i ∈ l.urgent ∧ i.stopOf ≠ some n := by
  simpa [Line.removeStop, ← Bool.not_eq_true, Item.isStopFor_iff] using h

/-- The STOP_REQUEST of one call leaves the urgent queue, and the calls change but for those of the other requests. -/
theorem QueuedStops.removeStop {k m : Slack} {bank : List Call} {l : Line} (h : QueuedStops k bank l) (n : Nat) (f : Call → Call)
    (hf : ∀ c, (f c).service = c.service) (ha : ∀ i, ∀ c ∈ bank, c.service ≠ n → Asks k i c → Asks m i (f c)) :
    QueuedStops m (bank.map f) (l.removeStop n) := by
  refine ⟨fun i hi p hp => ?_, ?_, h.routine, l.removeStop_atHead n h.head⟩
  · obtain ⟨hi, hne⟩ := stopOf_of_removeStop hi
    obtain ⟨c, hc, hsv, hask⟩ := h.queued i hi p hp
    refine ⟨f c, List.mem_map_of_mem hc, (hf c).trans hsv, ha i c hc ?_ hask⟩
    rintro rfl
    exact hne (hsv.symm ▸ hp)
  · exact h.once.sublist (List.filter_sublist.filterMap _)

section Leaving

variable {stops sales : Prop} {k m : Slack} {s : State} {n : Nat}

/-- What leaving the saleable states does ends what was left open for the call (R17). -/
theorem TableInv.leave (h : TableInv stops sales k s) (gone : ∀ c ∈ k.gone, c = n ∨ c ∈ m.gone) (odd : m.odd = k.odd)
    (ending : m.ending = k.ending) : TableInv stops sales m (leaveSaleable n s) := by
  have away : ∀ {P : Prop} {p : Nat}, p ≠ n → (P ∨ p ∈ k.gone) → (P ∨ p ∈ m.gone) := fun hp ho =>
    ho.imp id fun hg => (gone _ hg).resolve_left hp
  refine ⟨⟨?_, ?_, ?_⟩, fun hs c hc => ?_, fun hs => ?_, fun hs => ?_⟩
  · rw [leaveSaleable_calls]
    exact h.bank.active.map fun c => by split <;> rfl
  · rw [leaveSaleable_calls]; exact h.bank.next
  · rw [leaveSaleable_calls]; exact h.bank.empty
  · rw [leaveSaleable_calls] at hc
    obtain ⟨d, hd, rfl⟩ := List.mem_map.1 hc
    obtain ⟨h1, h2, h3, h4⟩ := h.fields hs d hd
    split
    next he => exact ⟨odd ▸ h1, h2, h3, nofun⟩
    next he => exact ⟨odd ▸ h1, h2, h3, fun ht => ⟨(h4 ht).1, away he (h4 ht).2⟩⟩
  · rw [leaveSaleable_calls, leaveSaleable_line]
    refine (h.queue hs).removeStop n _ (fun c => by split <;> rfl) fun i c _ hne ha => ?_
    rw [if_neg hne]
    exact ⟨odd ▸ ha.1, ha.2.1, away hne ha.2.2.1, ha.2.2.2⟩
  · obtain ⟨h1, h2, h3, h4, h5⟩ := h.sale hs
    have hi := leaveSaleable_issue n s
    refine ⟨?_, ?_, ?_, ?_, fun x hx hq p hp => ?_⟩
    · rw [hi]; exact fun hh => by rw [h1 hh]; rfl
    · rw [hi, ending]; simpa using h2
    · rw [hi, leaveSaleable_clock]; exact fun hu => by rw [h3 hu]; rfl
    · rw [hi]; exact h4
    · rw [hi] at hx
      obtain ⟨y, hy, rfl⟩ := Option.map_eq_some_iff.1 hx
      rw [Sale.voidFor_call] at hp
      obtain ⟨hq, hne⟩ := Sale.voidFor_quoted hq hp
      obtain ⟨c, hc, hsv, hsl⟩ := h5 y hy hq p hp
      refine ⟨c, ?_, hsv, away hne hsl⟩
      rw [leaveSaleable_calls]
      exact List.mem_map.2 ⟨c, hc, if_neg (hsv ▸ hne)⟩

theorem TableInv.leaveAll (l : List Nat) (h : TableInv stops sales k s) (gone : ∀ c ∈ k.gone, c ∈ l ∨ c ∈ m.gone)
    (odd : m.odd = k.odd) (ending : m.ending = k.ending) :
    TableInv stops sales m (l.foldl (fun t n => leaveSaleable n t) s) := by
  induction l generalizing k s with
  | nil =>
    exact h.mono (fun c hc => (gone c hc).resolve_left List.not_mem_nil) (fun _ hc => odd ▸ hc) fun hc => ending ▸ hc
  | cons n l ih =>
    refine ih (k := { k with gone := k.gone.filter (· ≠ n) }) (h.leave (n := n) (fun c hc => ?_) rfl rfl)
      (fun c hc => ?_) odd ending
    · by_cases e : c = n
      · exact Or.inl e
      · exact Or.inr (by simp [hc, e])
    · obtain ⟨hc, e⟩ : c ∈ k.gone ∧ c ≠ n := by simpa using hc
      exact (gone c hc).imp (fun hl => (List.mem_cons.1 hl).resolve_left e) id

end Leaving

end Sys2Proof.Machine

/-! What leaving the saleable states (R17) does to several calls at once: the same, whatever their order. -/

namespace Sys2Proof.Machine

-- One theorem at a time: the whole text is checked in one process.
set_option Elab.async false

/-- Two states are one if each of their blocks is. -/
theorem State.ext_blocks {s t : State} (calls : s.calls = t.calls) (board : s.board = t.board) (clock : s.clock = t.clock)
    (fares : s.fares = t.fares) (issue : s.issue = t.issue) (line : s.line = t.line) (platform : s.platform = t.platform)
    (screen : s.screen = t.screen) (vport : s.vport = t.vport) (sport : s.sport = t.sport) (wakes : s.wakes = t.wakes)
    (pending : s.pending = t.pending) : s = t := by
  cases s
  cases t
  simp_all

/-- The frame in progress no longer stands at an item of the urgent queue. -/
def TxFrame.offUrgent (f : TxFrame) : TxFrame :=
  { f with queued := match f.source with
    | .urgentItem _ => false
    | .join | .routineItem _ | .sale _ => f.queued }

theorem headRemoved_eq (tx : Option TxFrame) : headRemoved tx = tx.map TxFrame.offUrgent := by
  cases tx with
  | none => rfl
  | some f =>
    obtain ⟨source, queued, _, _, _, _, _⟩ := f
    cases source <;> cases queued <;> rfl

theorem map_offUrgent_idem (tx : Option TxFrame) : (tx.map TxFrame.offUrgent).map TxFrame.offUrgent = tx.map TxFrame.offUrgent := by
  cases tx with
  | none => rfl
  | some f =>
    obtain ⟨source, _, _, _, _, _, _⟩ := f
    cases source <;> rfl

section Leaving

variable (p q : Nat → Bool)

/-- The line after the STOP_REQUESTs of some calls have left the urgent queue (R132). -/
def Line.withdraw (l : Line) : Line :=
  { l with
    urgent := l.urgent.filter fun i => !i.stopOf.any p
    tx := if (l.urgent.head?.bind Item.stopOf).any p then l.tx.map TxFrame.offUrgent else l.tx }

/-- A QUOTED sale bound to one of some calls (R89). -/
def Sale.boundIn (x : Sale) : Bool := x.state = .quoted && x.call.any p

/-- The sale after a void for some calls (R89). -/
def Sale.voidIn (x : Sale) : Sale := if x.boundIn p then { x with state := .void } else x

/-- The state after some calls have left the saleable states (R17). -/
def leaving (s : State) : State :=
  { s with
    calls := { s.calls with active := s.calls.active.map fun c => if p c.service then { c with ackTimer := none } else c }
    issue := { s.issue with sale := s.issue.sale.map (Sale.voidIn p) }
    line := s.line.withdraw p
    vport := if s.issue.sale.any (Sale.boundIn p) then s.vport.latch VNotice.quoteVoid.bit else s.vport }

theorem Line.removeStop_eq (n : Nat) (l : Line) : l.removeStop n = l.withdraw fun m => m = n := by
  have hi : ∀ i : Item, i.isStopFor n = i.stopOf.any fun m => m = n := fun i => by
    cases i <;> simp [Item.isStopFor, Item.stopOf]
  have hh : l.urgent.head?.any (Item.isStopFor n) = (l.urgent.head?.bind Item.stopOf).any fun m => m = n := by
    cases l.urgent.head? with
    | none => rfl
    | some i => exact hi i
  simp only [Line.removeStop, Line.withdraw, hh, hi, headRemoved_eq]

theorem Sale.boundTo_eq (n : Nat) (x : Sale) : x.boundTo n = x.boundIn fun m => m = n := by
  cases h : x.call <;> simp [Sale.boundTo, Sale.boundIn, h]

/-- One call leaves the saleable states (R17). -/
theorem leaveSaleable_eq (n : Nat) (s : State) : leaveSaleable n s = leaving (fun m => m = n) s := by
  have hv : Sale.voidFor n = Sale.voidIn fun m => m = n := funext fun x => by
    simp only [Sale.voidFor, Sale.voidIn, Sale.boundTo_eq]
  have hb : Sale.boundTo n = Sale.boundIn fun m => m = n := funext (Sale.boundTo_eq n)
  have hl : (leaveSaleable n s).line = s.line.withdraw fun m => m = n := by
    rw [leaveSaleable_line, Line.removeStop_eq]
  refine State.ext_blocks ?_ ?_ ?_ ?_ ?_ hl ?_ ?_ ?_ ?_ ?_ ?_
  · rw [leaveSaleable_calls]; simp [leaving]
  · exact leaveSaleable_board n s
  · exact leaveSaleable_clock n s
  · exact leaveSaleable_fares n s
  · rw [leaveSaleable_issue, hv]; rfl
  · exact leaveSaleable_platform n s
  · exact leaveSaleable_screen n s
  · rw [leaveSaleable_vport, hb]; rfl
  · exact leaveSaleable_sport n s
  · exact leaveSaleable_wakes n s
  · exact leaveSaleable_pending n s

theorem Line.withdraw_withdraw (l : Line) : (l.withdraw p).withdraw q = l.withdraw fun n => p n || q n := by
  have hf : ∀ i : Item, (!i.stopOf.any p && !i.stopOf.any q) = !i.stopOf.any fun n => p n || q n := fun i => by
    cases i.stopOf <;> simp
  have urgent : (l.urgent.filter fun i => !i.stopOf.any p).filter (fun i => !i.stopOf.any q)
      = l.urgent.filter fun i => !i.stopOf.any fun n => p n || q n := by
    rw [List.filter_filter]
    exact List.filter_congr fun i _ => by rw [Bool.and_comm, hf]
  have tx : (if ((l.urgent.filter fun i => !i.stopOf.any p).head?.bind Item.stopOf).any q then
        (if (l.urgent.head?.bind Item.stopOf).any p then l.tx.map TxFrame.offUrgent else l.tx).map TxFrame.offUrgent
      else if (l.urgent.head?.bind Item.stopOf).any p then l.tx.map TxFrame.offUrgent else l.tx)
      = if (l.urgent.head?.bind Item.stopOf).any (fun n => p n || q n) then l.tx.map TxFrame.offUrgent else l.tx := by
    cases l.urgent with
    | nil => rfl
    | cons i is =>
      have hs : (i.stopOf.any fun n => p n || q n) = (i.stopOf.any p || i.stopOf.any q) := by
        cases i.stopOf <;> rfl
      simp only [List.head?_cons, Option.bind_some, hs]
      by_cases hp : i.stopOf.any p = true
      · simp only [hp, if_true, Bool.true_or, map_offUrgent_idem, ite_self]
      · simp [hp]
  unfold Line.withdraw
  rw [← urgent, ← tx]

theorem Sale.voidIn_voidIn (x : Sale) : (x.voidIn p).voidIn q = x.voidIn fun n => p n || q n := by
  obtain ⟨state, call, _, _, _, _, _, _⟩ := x
  cases state <;> cases call with
  | none => rfl
  | some n => cases hp : p n <;> cases hq : q n <;> simp [Sale.voidIn, Sale.boundIn, hp, hq]

theorem PortState.latch_latch (p : PortState) (b : BitVec 16) : (p.latch b).latch b = p.latch b := by
  unfold PortState.latch
  split
  · simp [*]
  · simp [BitVec.or_assoc]

theorem leaving_leaving (s : State) : leaving q (leaving p s) = leaving (fun n => p n || q n) s := by
  have vport : (if (s.issue.sale.map (Sale.voidIn p)).any (Sale.boundIn q) then
        (if s.issue.sale.any (Sale.boundIn p) then s.vport.latch VNotice.quoteVoid.bit else s.vport).latch
          VNotice.quoteVoid.bit
      else if s.issue.sale.any (Sale.boundIn p) then s.vport.latch VNotice.quoteVoid.bit else s.vport)
      = if s.issue.sale.any (Sale.boundIn fun n => p n || q n) then s.vport.latch VNotice.quoteVoid.bit else s.vport := by
    cases s.issue.sale with
    | none => rfl
    | some x =>
      obtain ⟨state, call, _, _, _, _, _, _⟩ := x
      cases state <;> cases call with
      | none => rfl
      | some n => cases hp : p n <;> cases hq : q n <;> simp [Sale.voidIn, Sale.boundIn, hp, hq]
  refine State.ext_blocks ?_ rfl rfl rfl ?_ (Line.withdraw_withdraw p q s.line) rfl rfl vport rfl rfl rfl
  · simp only [leaving, List.map_map]
    congr 1
    refine List.map_congr_left fun c _ => ?_
    by_cases hp : p c.service = true <;> by_cases hq : q c.service = true <;> simp [hp, hq]
  · simp only [leaving, Option.map_map]
    congr 2
    exact funext (Sale.voidIn_voidIn p q)

theorem leaving_none (s : State) : leaving (fun _ => false) s = s := by
  have hb : Sale.boundIn (fun _ => false) = fun _ => false := funext fun x => by simp [Sale.boundIn]
  have hv : Sale.voidIn (fun _ => false) = id := funext fun x => by simp [Sale.voidIn, hb]
  simp [leaving, Line.withdraw, hb, hv]

/-- Several calls leave the saleable states, one after another (R17). -/
theorem foldl_leaveSaleable_eq (l : List Nat) (s : State) :
    l.foldl (fun t n => leaveSaleable n t) s = leaving (fun n => l.contains n) s := by
  induction l generalizing s with
  | nil => exact (leaving_none s).symm
  | cons n l ih =>
    rw [List.foldl_cons, ih, leaveSaleable_eq, leaving_leaving]
    simp

end Leaving

end Sys2Proof.Machine

/-! The invariant of the call table under the shared operations: the queues, evaluation, stops, rollover and the reports of
the platform monitor. -/

namespace Sys2Proof.Machine

-- One theorem at a time: the whole text is checked in one process.
set_option Elab.async false

section Operations

variable {stops sales : Prop} {k : Slack} {s : State}

/-! ## The queues and the blocks beside the call table -/

theorem TableInv.enqueue (h : TableInv stops sales k s) (c : AccessClass) {i : Item} (hi : i.stopOf = none) :
    TableInv stops sales k (enqueue c i s) :=
  ⟨h.bank.congr rfl, h.fields, fun hs => (h.queue hs).enqueue c hi, fun hs => (h.sale hs).congr rfl rfl rfl rfl id⟩

theorem TableInv.offerObservation (h : TableInv stops sales k s) (o : ObservationKind) (n t : Option Nat) :
    TableInv stops sales k (offerObservation o n t s) := h.enqueue _ rfl

theorem TableInv.offerReply (h : TableInv stops sales k s) (l : LoadKind) (o : LoadOutcome) (r : Option Nat) :
    TableInv stops sales k (offerReply l o r s) := h.enqueue _ rfl

theorem TableInv.offerHoldGranted (h : TableInv stops sales k s) : TableInv stops sales k (offerHoldGranted s) :=
  h.enqueue _ rfl

theorem TableInv.offerHoldEnded (h : TableInv stops sales k s) (r : EndReason) :
    TableInv stops sales k (offerHoldEnded r s) := h.enqueue _ rfl

theorem TableInv.statusCause (h : TableInv stops sales k s) : TableInv stops sales k (statusCause s) := by
  unfold Machine.statusCause Line.statusCause Line.offerStatus
  split
  · exact h.enqueue s.line.classMap.status (i := .status) rfl
  · split
    · exact h.line rfl rfl id
    · exact h

/-- A frame keeps its place at the head of a queue under what leaves its source and its mark as they were. -/
theorem atHead_map {l m : Line} {g : TxFrame → TxFrame} (source : ∀ f, (g f).source = f.source)
    (queued : ∀ f, (g f).queued = f.queued) (urgent : m.urgent = l.urgent) (routine : m.routine = l.routine)
    (tx : m.tx = l.tx.map g) (h : ∀ f ∈ l.tx, f.atHead l) : ∀ f ∈ m.tx, f.atHead m := by
  intro f hf
  rw [tx] at hf
  obtain ⟨x, hx, rfl⟩ := Option.map_eq_some_iff.1 hf
  exact ((h x hx).of_frame (source x) (queued x)).of_heads (by rw [urgent]; exact fun _ => id)
    (by rw [routine]; exact fun _ => id)

theorem TableInv.reportRearm (h : TableInv stops sales k s) : TableInv stops sales k (reportRearm s) := by
  refine TableInv.statusCause (h.line rfl rfl (atHead_map ?_ ?_ rfl rfl rfl))
  all_goals intro f; split <;> rfl

theorem TableInv.latchV (h : TableInv stops sales k s) (n : VNotice) : TableInv stops sales k (latchV n s) :=
  h.other rfl rfl rfl id

theorem TableInv.latchS (h : TableInv stops sales k s) (n : SNotice) : TableInv stops sales k (latchS n s) :=
  h.other rfl rfl rfl id

theorem TableInv.evalDemandAt (h : TableInv stops sales k s) (b : Bool) : TableInv stops sales k (evalDemandAt b s) :=
  h.other (by simp) (by simp) (by simp) (by simp)

theorem TableInv.evalDemand (h : TableInv stops sales k s) : TableInv stops sales k (evalDemand s) := h.evalDemandAt _

theorem TableInv.rebuild (h : TableInv stops sales k s) : TableInv stops sales k (rebuild s) :=
  h.other (by simp) (by simp) (by simp) (by simp)

theorem TableInv.setPort (h : TableInv stops sales k s) (port : Port) (p : PortState) :
    TableInv stops sales k (setPort s port p) :=
  h.other (by simp) (by simp) (by simp) (by simp)

theorem TableInv.frameDone (h : TableInv stops sales k s) : TableInv stops sales k (frameDone s) := h.line rfl rfl id

theorem TableInv.onMalformed (h : TableInv stops sales k s) (d : DownKind) : TableInv stops sales k (onMalformed d s) := by
  unfold Machine.onMalformed
  split
  · exact h.offerReply _ _ _
  · exact h.line rfl rfl id

theorem TableInv.setLink (h : TableInv stops sales k s) (l : LinkState) : TableInv stops sales k (setLink l s) :=
  (h.line (l := s.line.enter l) rfl rfl fun _ => nofun).latchV _

/-! ## The issue unit -/

theorem TableInv.lowWater (h : TableInv stops sales k s) (crossed : Bool) :
    TableInv stops sales k (lowWater crossed s) := by
  unfold Machine.lowWater
  split
  · refine TableInv.latchV ?_ _
    exact (h.enqueue s.line.classMap.serialAsk (i := .serialAsk (remaining s.issue.blocks)) rfl).congr rfl rfl rfl id
      fun hs => hs.congr rfl rfl rfl rfl id
  · exact h

/-- The hold changes, with its timer (R100). -/
theorem TableInv.setHold (h : TableInv stops sales k s) {m : Slack} (gone : ∀ n ∈ k.gone, n ∈ m.gone)
    (odd : ∀ n ∈ k.odd, n ∈ m.odd) {hold : Hold} {limit : Timer} (held : hold = .held → s.issue.sale = none)
    (asked : hold = .asked → s.issue.sale.isSome = true) (timer : limit.isSome = decide (hold = .held)) :
    TableInv stops sales m (setHold hold limit s) :=
  h.resale rfl rfl rfl id gone odd fun hs => ⟨held, fun ha => Or.inl (asked ha), hs.unset, timer,
    fun x hx hq n hn => (hs.bound x hx hq n hn).imp fun _ ⟨hc, hsv, ha⟩ => ⟨hc, hsv, ha.imp id (gone _)⟩⟩

/-- A hold in ASKED is granted as the sale it waited for ends (R102). -/
theorem TableInv.grantAsked (h : TableInv stops sales k s) (ended : s.issue.sale = none) {m : Slack}
    (gone : ∀ n ∈ k.gone, n ∈ m.gone) (odd : ∀ n ∈ k.odd, n ∈ m.odd) : TableInv stops sales m (grantAsked s) := by
  unfold Machine.grantAsked
  split
  · exact (h.setHold (hold := .held) (limit := some Config.holdLimit) gone odd (fun _ => ended) nofun rfl).offerHoldGranted
  next ha =>
    exact h.resale rfl rfl rfl id gone odd fun hs => ⟨hs.held, fun hh => absurd hh ha, hs.unset, hs.limit,
      fun x hx => by rw [ended] at hx; cases hx⟩

/-- The pending sale is removed (R86 to R88). -/
theorem TableInv.dropSale (h : TableInv stops sales k s) :
    TableInv stops sales { k with ending := true } { s with issue := { s.issue with sale := none } } :=
  h.resale rfl rfl rfl id (fun _ => id) (fun _ => id) fun hs =>
    ⟨fun _ => rfl, fun _ => Or.inr rfl, fun _ => rfl, hs.limit, nofun⟩

theorem TableInv.endSale (h : TableInv stops sales k s) : TableInv stops sales k (endSale s) :=
  h.dropSale.grantAsked rfl (fun _ => id) fun _ => id

/-! ## Offers of STOP_REQUEST (R20) -/

theorem TableInv.offerStops (h : TableInv stops sales k s) : TableInv stops sales k (offerStops s) := by
  refine ⟨h.bank.congr rfl, h.fields, fun hs => (h.queue hs).offerAll ?_ fun c hc => ?_,
    fun hs => (h.sale hs).congr rfl rfl rfl rfl id⟩
  · have apart : (s.calls.active.filter (waitsForStop s.line.urgent)).Pairwise fun c d => c.service ≠ d.service :=
      (h.bank.active.sorted.sublist List.filter_sublist).imp fun hlt => hlt.ne
    exact (sortBy_perm _ _).symm.pairwise apart fun hne => hne.symm
  · obtain ⟨hc, hw⟩ := List.mem_filter.1 ((mem_sortBy _).1 hc)
    simp only [waitsForStop, Bool.and_eq_true, decide_eq_true_eq, Bool.not_eq_true', List.any_eq_false,
      Item.isStopFor_iff] at hw
    obtain ⟨⟨hsl, hst⟩, hn⟩ := hw
    refine ⟨hc, ⟨?_, hst, Or.inl hsl, rfl⟩, hn⟩
    cases hk : c.kind with
    | request => exact Or.inl rfl
    | stops => exact Or.inr (((h.fields hs c hc).stops hk).resolve_left (by simp [hst]))

/-! ## Evaluation (R35 to R38) -/

/-- An evaluation leaves the saleable states only by a lapse, of a call that was open (R35, R36). -/
theorem evaluated_saleable (p : Params) (now : Nat) {c : Call} (h : c.state.saleable = true) :
    (evaluated p now c).saleable = true ∨ (c.state.isOpen = true ∧ evaluated p now c = .lapsed) := by
  unfold evaluated
  split
  · exact Or.inl h
  next ho =>
    split
    · exact Or.inr ⟨by simpa using ho, rfl⟩
    · split <;> exact Or.inl rfl

theorem evaluated_keepsStop {p : Params} {now : Nat} {c : Call}
    (gone : c.state.isOpen = true → evaluated p now c = .lapsed → c.service ∈ k.gone) :
    KeepsStop k c { c with state := evaluated p now c } :=
  ⟨rfl, rfl, rfl, rfl, id, fun h => (evaluated_saleable p now h).imp id fun ⟨ho, hl⟩ => gone ho hl⟩

theorem TableInv.evaluateAll (h : TableInv stops sales k s) : TableInv stops sales k (evaluateAll s) := by
  unfold Machine.evaluateAll
  split
  · have h' : TableInv stops sales { k with gone := lapsing s ++ k.gone } s :=
      h.mono (fun _ hc => List.mem_append_right _ hc) (fun _ => id) id
    refine TableInv.leaveAll _ (h'.mapActive fun c hc => (evaluated_keepsStop fun ho hl => ?_).kept)
      (fun _ hc => List.mem_append.1 hc) rfl rfl
    exact List.mem_append_left _ (List.mem_map_of_mem (List.mem_filter.2 ⟨hc, by simp [ho, hl]⟩))
  · exact h

theorem TableInv.recomputeAll (h : TableInv stops sales k s) : TableInv stops sales k (recomputeAll s) :=
  (h.mapActive fun c _ => (recompute_keepsStop k c).kept).evaluateAll

theorem TableInv.evaluateCall (h : TableInv stops sales k s) (n : Nat) : TableInv stops sales k (evaluateCall n s) := by
  unfold Machine.evaluateCall
  split
  · have h' : TableInv stops sales { k with gone := n :: k.gone } s :=
      h.mono (fun _ hc => List.mem_cons_of_mem _ hc) (fun _ => id) id
    dsimp only
    split
    · exact (h'.mapCall fun c _ hn => (evaluated_keepsStop fun _ _ => hn ▸ List.mem_cons_self).kept).leave
        (fun _ hc => List.mem_cons.1 hc) rfl rfl
    next hl =>
      refine h.mapCall fun c hc hn => (evaluated_keepsStop fun ho he => absurd ?_ hl).kept
      rw [← hn, State.call, h.bank.active.find_any hc]
      simp [ho, he]
  · exact h

theorem TableInv.recomputeCall (h : TableInv stops sales k s) (n : Nat) : TableInv stops sales k (recomputeCall n s) :=
  (h.mapCall fun c _ _ => (recompute_keepsStop k c).kept).evaluateCall n

/-! ## Stops wanted (R19) -/

theorem stopFrom_kept (p : Params) (now : Nat) (o : Origin) {c : Call} (hk : c.kind = .request) (hs : c.stop = .none) :
    CallKept k c (stopFrom p now o c) := by
  refine ⟨rfl, fun hf => ⟨fun h => absurd (hk.symm.trans h) nofun, ?_, ?_, fun ht => absurd (hf.ackTimer ht).1 ?_⟩,
    fun i _ ha => absurd ha.2.1 ?_, Or.inl⟩
  · simp only [stopFrom]; split <;> rfl
  · simp only [stopFrom]; split <;> rfl
  · simp [hs]
  · simp [hs]

theorem TableInv.wantStop (h : TableInv stops sales k s) (n : Nat) (o : Origin) :
    TableInv stops sales k (wantStop n o s) := by
  unfold Machine.wantStop
  split
  next ht =>
    have h' : TableInv stops sales k (s.mapCall n (stopFrom s.line.params s.now o)) := by
      refine h.mapCall fun c hc hn => ?_
      rw [takesStop, State.call, ← hn, h.bank.active.find_any hc] at ht
      obtain ⟨hk, hs⟩ : c.kind = .request ∧ c.stop = .none := by simpa using ht
      exact stopFrom_kept _ _ _ hk hs
    dsimp only
    split
    · exact h'.offerStops
    · exact h'
  · exact h


end Operations

end Sys2Proof.Machine

/-! The invariant of the call table under rollover, the reports of the platform monitor, the loads and the frames of the
line. -/

namespace Sys2Proof.Machine

-- One theorem at a time: the whole text is checked in one process.
set_option Elab.async false

section Operations

variable {stops sales : Prop} {k : Slack} {s : State}

/-! ## Rollover (R22, R23) -/

/-- No STOP_REQUEST is queued, and no QUOTED sale is bound to a call. -/
structure DayClosed (stops sales : Prop) (s : State) : Prop where
  queue : stops → ∀ i ∈ s.line.urgent, i.stopOf = none
  sale : sales → ∀ x ∈ s.issue.sale, x.state = .quoted → x.call = none

theorem closeDay_eq (s : State) : closeDay s = leaving (fun n => (closing s).contains n)
    (s.mapActive fun c => if c.state.saleable || c.state = .cancelled then { c with state := .lapsed } else c) :=
  foldl_leaveSaleable_eq _ _

theorem mem_closing {c : Call} (hc : c ∈ s.calls.active) (h : c.state.saleable = true) : c.service ∈ closing s :=
  List.mem_map_of_mem (List.mem_filter.2 ⟨hc, h⟩)

theorem Sale.voidIn_quoted {p : Nat → Bool} {x : Sale} (h : (x.voidIn p).state = .quoted) :
    x.voidIn p = x ∧ ∀ n ∈ x.call, p n = false := by
  unfold Sale.voidIn at h ⊢
  split at h
  next => cases h
  next hb =>
    refine ⟨if_neg hb, fun n hn => ?_⟩
    rw [Option.mem_def] at hn
    simpa [Sale.boundIn, h, hn] using hb

/-- The closing of a day takes every STOP_REQUEST from the queue and voids a sale bound to a call (R22). -/
theorem TableInv.closeDay_closed (h : TableInv stops sales .none s) : DayClosed stops sales (closeDay s) := by
  rw [closeDay_eq]
  refine ⟨fun hs i hi => ?_, fun hs x hx hq => ?_⟩
  · obtain ⟨hi, hn⟩ : i ∈ s.line.urgent ∧ i.stopOf.any (fun n => (closing s).contains n) = false := by
      simpa [leaving, Line.withdraw] using hi
    cases ho : i.stopOf with
    | none => rfl
    | some n =>
      obtain ⟨c, hc, rfl, -, -, hsl, -⟩ := (h.queue hs).queued i hi n ho
      have := mem_closing hc (hsl.resolve_right List.not_mem_nil)
      simp [ho, this] at hn
  · obtain ⟨y, hy, rfl⟩ := Option.map_eq_some_iff.1 hx
    obtain ⟨e, hn⟩ := Sale.voidIn_quoted hq
    rw [e] at hq ⊢
    cases ho : y.call with
    | none => rfl
    | some n =>
      obtain ⟨c, hc, rfl, hsl⟩ := (h.sale hs).bound y hy hq n ho
      have := mem_closing hc (hsl.resolve_right List.not_mem_nil)
      have := hn _ ho
      simp_all

theorem TableInv.closeDay (h : TableInv stops sales k s) : TableInv stops sales k (closeDay s) := by
  have h' : TableInv stops sales { k with gone := closing s ++ k.gone } s :=
    h.mono (fun _ hc => List.mem_append_right _ hc) (fun _ => id) id
  refine TableInv.leaveAll _ (h'.mapActive fun c hc => ?_) (fun _ hc => List.mem_append.1 hc) rfl rfl
  split
  · exact KeepsStop.kept ⟨rfl, rfl, rfl, rfl, id, fun hsl => Or.inr (List.mem_append_left _ (mem_closing hc hsl))⟩
  · exact CallKept.refl _ c

theorem cleared_fields (c : Call) : StopFieldsBut k c.cleared := ⟨fun _ => Or.inl rfl, rfl, rfl, nofun⟩

/-- A closed day leaves nothing that speaks of a call, so that another bank of cleared calls may take its place (R23). -/
theorem TableInv.reopen (h : TableInv stops sales k s) (closed : DayClosed stops sales s) {t : CallTable} (bank : List Call)
    (good : GoodBank bank) (active : t.active = bank.map Call.cleared) (next : GoodBank t.next)
    (empty : t.nextState = .empty → t.next = []) : TableInv stops sales k { s with calls := t } := by
  refine ⟨⟨?_, next, empty⟩, fun hs c hc => ?_, fun hs => ⟨fun i hi n hn => ?_, (h.queue hs).once, (h.queue hs).routine,
    (h.queue hs).head⟩, fun hs => ⟨(h.sale hs).held, (h.sale hs).asked, (h.sale hs).unset, (h.sale hs).limit,
    fun x hx hq n hn => ?_⟩⟩
  · rw [active]
    exact good.map fun _ => rfl
  · rw [active] at hc
    obtain ⟨d, -, rfl⟩ := List.mem_map.1 hc
    exact cleared_fields d
  · rw [closed.queue hs i hi] at hn
    cases hn
  · rw [closed.sale hs x hx hq] at hn
    cases hn

theorem TableInv.openDay (h : TableInv stops sales k s) (closed : DayClosed stops sales s) :
    TableInv stops sales k (openDay s) := by
  unfold Machine.openDay
  split
  · exact h.reopen closed _ h.bank.next rfl .nil fun _ => rfl
  · exact TableInv.reportRearm (h.reopen closed _ h.bank.active rfl h.bank.next h.bank.empty)

theorem TableInv.rolloverCalls (h : TableInv stops sales .none s) : TableInv stops sales k (rolloverCalls s) := by
  have h' := (h.closeDay.openDay h.closeDay_closed).recomputeAll.of_none (k := k)
  unfold Machine.rolloverCalls markDayCrossed
  split
  · exact h'.other rfl rfl rfl id
  · exact h'

/-! ## The reports of the platform monitor (R158 to R160) -/

/-- A call departs, and leaves the saleable states (R16, R17). -/
theorem TableInv.departs (h : TableInv stops sales k s) (n : Nat) {f : Call → Call}
    (hf : ∀ c, c.service = n → KeepsStop { k with gone := n :: k.gone } c (f c)) :
    TableInv stops sales k (leaveSaleable n (s.mapCall n f)) :=
  have h' : TableInv stops sales { k with gone := n :: k.gone } s :=
    h.mono (fun _ hc => List.mem_cons_of_mem _ hc) (fun _ => id) id
  (h'.mapCall fun c _ hn => (hf c hn).kept).leave (fun _ hc => List.mem_cons.1 hc) rfl rfl

theorem KeepsStop.recompute {c d : Call} (h : KeepsStop k c d) : KeepsStop k c (recompute d) := by
  obtain ⟨h1, h2, h3, h4, h5, h6⟩ := recompute_keepsStop k d
  refine ⟨h1.trans h.sched, h2.trans h.stop, h3.trans h.origin, h4.trans h.wantedAt, h.timer ∘ h5, fun hc => ?_⟩
  exact (h.state hc).elim (fun hd => h.service ▸ h6 hd) Or.inr

/-- A change of nothing the invariant speaks of, but for the state of a call that leaves the saleable states. -/
theorem keepsStop_departed {c : Call} (hc : c.service ∈ k.gone) (st : CallState) (ad : Option Nat) (passed : Bool) :
    KeepsStop k c { c with state := st, ad := ad, passed := passed } := ⟨rfl, rfl, rfl, rfl, id, fun _ => Or.inr hc⟩

theorem keepsStop_arrived (c : Call) (aa : Option Nat) : KeepsStop k c { c with state := .arrived, aa := aa } :=
  ⟨rfl, rfl, rfl, rfl, id, fun _ => Or.inl rfl⟩

theorem TableInv.reportDeparture (h : TableInv stops sales k s) (n : Nat) (st : Stamp) :
    TableInv stops sales k (reportDeparture n st s) := by
  unfold Machine.reportDeparture
  split
  · refine TableInv.offerObservation (TableInv.departs h n fun c hn => KeepsStop.recompute (keepsStop_departed ?_ _ _ _)) _ _ _
    exact hn ▸ List.mem_cons_self
  · exact h.offerObservation _ _ _

theorem TableInv.platform (h : TableInv stops sales k s) (m : Platform) :
    TableInv stops sales k { s with platform := m } := h.other rfl rfl rfl id

theorem TableInv.decideStop (h : TableInv stops sales k s) : TableInv stops sales k (decideStop s) := by
  unfold Machine.decideStop
  dsimp only
  split
  next c st _ _ =>
    refine (TableInv.platform (TableInv.mapCall (h.platform _) fun d _ _ => ?_) _).offerObservation _ _ _
    exact (keepsStop_arrived d _).recompute.kept
  · exact (h.platform _).offerObservation _ _ _

theorem TableInv.decidePass (h : TableInv stops sales k s) : TableInv stops sales k (decidePass s) := by
  unfold Machine.decidePass
  dsimp only
  split
  · refine TableInv.offerObservation
      (TableInv.departs (h.platform _) _ fun c hn => KeepsStop.recompute (keepsStop_departed ?_ _ _ _)) _ _ _
    exact hn ▸ List.mem_cons_self
  · exact (h.platform _).offerObservation _ _ _

theorem TableInv.decideDeparture (h : TableInv stops sales k s) : TableInv stops sales k (decideDeparture s) := by
  unfold Machine.decideDeparture
  dsimp only
  split
  · split
    · exact (h.platform _).reportDeparture _ _
    · exact (h.platform _).offerObservation _ _ _
  · exact h.platform _

theorem TableInv.endBlind (h : TableInv stops sales k s) : TableInv stops sales k (endBlind s) := by
  unfold Machine.endBlind
  dsimp only
  split
  · exact ((h.platform _).reportDeparture _ _).rebuild
  · exact h.platform _

end Operations

end Sys2Proof.Machine

/-! The normalised fields of a LOAD_CALL (R2, R3, R7): the served destinations without duplicates, the upstream points with
the last allowance of each, and the ranges of a normalised record. -/

namespace Sys2Proof.Machine

-- One theorem at a time: the whole text is checked in one process.
set_option Elab.async false

/-! ## Served destinations (R2) -/

theorem firstOnly_filter (p : Nat → Bool) (l : List Nat) : firstOnly (l.filter p) = (firstOnly l).filter p := by
  induction l with
  | nil => rfl
  | cons a l ih =>
    by_cases hp : p a = true
    · simp [firstOnly, hp, ih, List.filter_filter, Bool.and_comm]
    · have hd : ∀ b ∈ firstOnly l, (p b && decide (b ≠ a)) = p b := fun b _ => by
        by_cases hb : b = a
        · simp [hb, hp]
        · simp [hb]
      simp only [firstOnly, hp, List.filter_cons_of_neg, not_false_eq_true, Bool.false_eq_true, ih, List.filter_filter]
      exact (List.filter_congr hd).symm

theorem firstOnly_eq_eraseDups (l : List Nat) : firstOnly l = l.eraseDups := by
  induction hn : l.length using Nat.strong_induction_on generalizing l with
  | _ n ih =>
    cases l with
    | nil => rfl
    | cons a l =>
      rw [firstOnly, List.eraseDups_cons, ← firstOnly_filter]
      have hlt : (l.filter fun b => !b == a).length < n := by
        have := List.length_filter_le (fun b => !b == a) l
        rw [← hn, List.length_cons]
        omega
      rw [← ih _ hlt _ rfl]
      congr 3
      funext b
      by_cases hb : b = a <;> simp [hb]

theorem mem_firstOnly {a : Nat} {l : List Nat} : a ∈ firstOnly l ↔ a ∈ l := by
  rw [firstOnly_eq_eraseDups, List.mem_eraseDups]

theorem nodup_firstOnly (l : List Nat) : (firstOnly l).Nodup := by
  induction l with
  | nil => exact List.nodup_nil
  | cons a l ih => exact List.nodup_cons.2 ⟨by simp, ih.filter _⟩

/-! ## Upstream points (R3) -/

/-- The allowance the last entry of a point code gives. -/
def lastAllowance (es : List (Nat × Nat)) (c : Nat) : Nat := ((es.reverse.find? fun e => e.1 = c).map Prod.snd).getD 0

theorem lastAllowance_append (es : List (Nat × Nat)) (e : Nat × Nat) (c : Nat) :
    lastAllowance (es ++ [e]) c = if e.1 = c then e.2 else lastAllowance es c := by
  by_cases h : e.1 = c <;> simp [lastAllowance, h]

/-- The points of a load: each code once, in the order of its first entry, with the allowance of its last (R3). -/
theorem putPoints_eq (es : List (Nat × Nat)) :
    es.foldl putPoint [] = (es.map Prod.fst).eraseDups.map fun c => (c, lastAllowance es c) := by
  induction es using List.reverseRecOn with
  | nil => rfl
  | append_singleton es e ih =>
    rw [List.foldl_append, List.foldl_cons, List.foldl_nil, ih, List.map_append, List.eraseDups_append]
    simp only [putPoint, lastAllowance_append]
    by_cases hm : e.1 ∈ es.map Prod.fst
    · have hany : (((es.map Prod.fst).eraseDups.map fun c => (c, lastAllowance es c)).any fun q => decide (q.1 = e.1)) = true :=
        List.any_eq_true.2 ⟨_, List.mem_map_of_mem (List.mem_eraseDups.2 hm), by simp⟩
      have hrest : ([e].map Prod.fst).removeAll (es.map Prod.fst) = [] := by
        simpa [List.removeAll] using hm
      rw [if_pos hany, hrest, List.eraseDups_nil, List.append_nil, List.map_map]
      refine List.map_congr_left fun c _ => ?_
      by_cases hc : e.1 = c
      · simp [← hc]
      · have hc' : c ≠ e.1 := fun h => hc h.symm
        simp [hc, hc']
    · have hany : ¬ (((es.map Prod.fst).eraseDups.map fun c => (c, lastAllowance es c)).any fun q => decide (q.1 = e.1)) = true := by
        rw [List.any_map, List.any_eq_true]
        rintro ⟨c, hc, he⟩
        exact hm (of_decide_eq_true he ▸ List.mem_eraseDups.1 hc)
      have hrest : ([e].map Prod.fst).removeAll (es.map Prod.fst) = [e.1] := by
        simpa [List.removeAll] using hm
      rw [if_neg hany, hrest, List.map_append]
      congr 1
      · refine List.map_congr_left fun c hc => ?_
        have : e.1 ≠ c := by
          rintro rfl
          exact hm (List.mem_eraseDups.1 hc)
        simp [this]
      · simp [List.eraseDups_cons]

theorem lastAllowance_mem {es : List (Nat × Nat)} {c : Nat} (h : c ∈ es.map Prod.fst) : (c, lastAllowance es c) ∈ es := by
  obtain ⟨e, he, rfl⟩ := List.mem_map.1 h
  cases hf : es.reverse.find? fun x => x.1 = e.1 with
  | none =>
    have := List.find?_eq_none.1 hf e (List.mem_reverse.2 he)
    simp at this
  | some x =>
    have hx : x.1 = e.1 := by simpa using List.find?_some hf
    rw [lastAllowance, hf, ← hx]
    exact List.mem_reverse.1 (List.mem_of_find?_eq_some hf)

/-! ## The ranges of a normalised record -/

theorem normaliseServed_inRange (codes : List Nat) : (normaliseServed codes).length ≤ 6 ∧ (normaliseServed codes).Nodup ∧
    ∀ d ∈ normaliseServed codes, 1 ≤ d ∧ d ≤ 999 := by
  refine ⟨List.length_take_le _ _, (nodup_firstOnly _).sublist (List.take_sublist _ _), fun d hd => ?_⟩
  obtain ⟨c, -, rfl⟩ := List.mem_map.1 (mem_firstOnly.1 (List.mem_of_mem_take hd))
  exact clamp_range c (by decide)

theorem normalisePoints_inRange (es : List (Nat × Nat)) : (normalisePoints es).length ≤ 4 ∧
    ((normalisePoints es).map Prod.fst).Nodup ∧ ∀ q ∈ normalisePoints es, 1 ≤ q.1 ∧ q.1 ≤ 255 ∧ q.2 ≤ 900 := by
  refine ⟨List.length_take_le _ _, ?_, fun q hq => ?_⟩
  · rw [normalisePoints, List.map_take, putPoints_eq, List.map_map]
    refine List.Nodup.sublist (List.take_sublist _ _) ?_
    rw [show Prod.fst ∘ (fun c => (c, lastAllowance (es.map fun e => (clamp 1 255 e.1, clamp 0 900 e.2)) c)) = id from rfl,
      List.map_id, ← firstOnly_eq_eraseDups]
    exact nodup_firstOnly _
  · have hm := List.mem_of_mem_take hq
    rw [putPoints_eq] at hm
    obtain ⟨c, hc, rfl⟩ := List.mem_map.1 hm
    obtain ⟨e, -, he⟩ := List.mem_map.1 (lastAllowance_mem (List.mem_eraseDups.1 hc))
    rw [← he]
    have h1 := clamp_range e.1 (show 1 ≤ 255 by decide)
    have h2 := clamp_range e.2 (show 0 ≤ 900 by decide)
    exact ⟨h1.1, h1.2, h2.2⟩

/-- A normalised record with usable times is in range (R1 to R3, R7). -/
theorem Scheduled.normalise_inRange {c : Scheduled} (h : c.normalise.timesOk = true) : c.normalise.InRange := by
  refine ⟨clamp_range _ (by decide), clamp_range _ (by decide), fun t ht => ?_, fun t ht => ?_, h,
    (clamp_range c.md (by decide)).2, normaliseServed_inRange _, normalisePoints_inRange _⟩
  all_goals
    obtain ⟨x, -, rfl⟩ := Option.map_eq_some_iff.1 ht
    exact (clamp_range x (Nat.zero_le _)).2

theorem readLoadCall_inRange {p : List Byte} {f : LoadCallFields} (hf : readLoadCall p = some f)
    (h : f.record.timesOk = true) : f.record.InRange := by
  simp only [readLoadCall, ofLength] at hf
  split at hf
  · cases hf
    exact Scheduled.normalise_inRange h
  · cases hf

end Sys2Proof.Machine

/-! The invariant of the call table under the commands: acknowledgements, loads, frames of the line, sales and resets; and
every step keeps it. -/

namespace Sys2Proof.Machine

-- One theorem at a time: the whole text is checked in one process.
set_option Elab.async false

section Commands

variable {stops sales : Prop} {k : Slack} {s : State}

/-! ## Notices and acknowledgements (R14, R15, R21, R26) -/

theorem TableInv.takeDelay (h : TableInv stops sales k s) (f : DelayFields) : TableInv stops sales k (takeDelay f s) := by
  unfold Machine.takeDelay
  split
  · refine TableInv.rebuild (TableInv.recomputeCall (TableInv.mapCall h ?_) _)
    exact fun c _ _ => KeepsStop.kept ⟨rfl, rfl, rfl, rfl, id, Or.inl⟩
  · exact h

theorem TableInv.takeCancel (h : TableInv stops sales k s) (n : Nat) : TableInv stops sales k (takeCancel n s) := by
  unfold Machine.takeCancel
  split
  · refine TableInv.rebuild (TableInv.departs h n ?_)
    exact fun c hn => keepsStop_departed (hn ▸ List.mem_cons_self) _ _ _
  · exact h

/-- A call in CANCELLED has no STOP_REQUEST queued and no acknowledgement timer, so that its stop may be wanted again (R15). -/
theorem reinstated_kept {c : Call} (h : c.state = .cancelled) : CallKept .none c (reinstated c) := by
  have off : ¬ (c.state.saleable = true ∨ c.service ∈ Slack.none.gone) := by simp [h, CallState.saleable, Slack.none]
  have same : (reinstated c).stop = .none ↔ c.stop = .none := by
    simp only [reinstated]
    split <;> simp_all
  refine ⟨rfl, fun hf => ⟨fun hk => (hf.stops hk).imp same.2 id, ?_, ?_, fun ht => absurd (hf.ackTimer ht).2 off⟩,
    fun i _ ha => absurd ha.2.2.1 off, fun _ => Or.inl rfl⟩
  · exact hf.origin.trans (decide_eq_decide.2 same.symm)
  · exact hf.wantedAt.trans (decide_eq_decide.2 same.symm)

theorem TableInv.takeReinstate (h : TableInv stops sales .none s) (n : Nat) :
    TableInv stops sales .none (takeReinstate n s) := by
  unfold Machine.takeReinstate
  split
  next ht =>
    have h' : TableInv stops sales .none (s.mapCall n reinstated) := h.mapCall fun c hc hn => by
      rw [State.call, ← hn, h.bank.active.find_any hc] at ht
      exact reinstated_kept (of_decide_eq_true ht)
    refine TableInv.rebuild ?_
    split
    · exact (h'.recomputeCall n).offerStops
    · exact h'.recomputeCall n
  · exact h

/-- The call of a service number changes and its STOP_REQUEST leaves the urgent queue (R10, R21). -/
theorem TableInv.unask (h : TableInv stops sales k s) {m : Slack} (n : Nat) {f : Call → Call}
    (hf : ∀ c ∈ s.calls.active, c.service = n → (f c).toScheduled = c.toScheduled ∧
      (StopFieldsBut k c → StopFieldsBut m (f c)) ∧ (f c).state = c.state)
    (gone : m.gone = k.gone) (odd : ∀ o ∈ k.odd, o = n ∨ o ∈ m.odd) (ending : m.ending = k.ending) :
    TableInv stops sales m (Machine.removeStop n (s.mapCall n f)) := by
  have away : ∀ {P : Prop} {p : Nat}, p ≠ n → (P ∨ p ∈ k.odd) → (P ∨ p ∈ m.odd) := fun hp ho =>
    ho.imp id fun hg => (odd _ hg).resolve_left hp
  have same : ∀ c ∈ s.calls.active, (if c.service = n then f c else c).toScheduled = c.toScheduled := fun c hc => by
    split
    next hn => exact (hf c hc hn).1
    next => rfl
  refine ⟨⟨?_, h.bank.next, h.bank.empty⟩, fun hs c hc => ?_, fun hs => ?_, fun hs => ?_⟩
  · refine h.bank.active.of_schedules ?_
    rw [removeStop_calls, State.mapCall_active, List.map_map]
    exact List.map_congr_left same
  · rw [removeStop_calls, State.mapCall_active] at hc
    obtain ⟨d, hd, rfl⟩ := List.mem_map.1 hc
    have hfd := h.fields hs d hd
    split
    next hn => exact (hf d hd hn).2.1 hfd
    next hn => exact ⟨fun hk => away hn (hfd.stops hk), hfd.origin, hfd.wantedAt, by rw [gone]; exact hfd.ackTimer⟩
  · obtain ⟨h1, h2, h3, h4⟩ := h.queue hs
    refine ⟨fun i hi p hp => ?_, ?_, h3, s.line.removeStop_atHead n h4⟩
    · obtain ⟨hi, hne⟩ := stopOf_of_removeStop hi
      obtain ⟨c, hc, hsv, ha⟩ := h1 i hi p hp
      have hcn : c.service ≠ n := by
        rintro rfl
        exact hne (hsv.symm ▸ hp)
      refine ⟨c, List.mem_map.2 ⟨c, hc, if_neg hcn⟩, hsv, away hcn ha.1, ha.2.1, ?_, ha.2.2.2⟩
      rw [gone]
      exact ha.2.2.1
    · exact h2.sublist (List.filter_sublist.filterMap _)
  · obtain ⟨h1, h2, h3, h4, h5⟩ := h.sale hs
    refine ⟨h1, ending ▸ h2, h3, h4, fun x hx hq p hp => ?_⟩
    obtain ⟨c, hc, hsv, hsl⟩ := h5 x hx hq p hp
    refine ⟨_, List.mem_map_of_mem hc, (congrArg Scheduled.service (same c hc)).trans hsv, gone ▸ hsl.imp (fun hsl => ?_) id⟩
    split
    next hn => rw [(hf c hc hn).2.2]; exact hsl
    next => exact hsl

theorem TableInv.takeStopAck (h : TableInv stops sales k s) (n : Nat) : TableInv stops sales k (takeStopAck n s) := by
  unfold Machine.takeStopAck
  split
  next ht =>
    refine TableInv.rebuild (h.unask n (fun c hc hn => ⟨rfl, fun hf => ?_, rfl⟩) rfl (fun _ => Or.inr) rfl)
    rw [State.call, ← hn, h.bank.active.find_any hc] at ht
    obtain ⟨hk, hst⟩ : c.kind = .request ∧ (c.stop = .wanted ∨ c.stop = .sent) := by simpa using ht
    have hne : c.stop ≠ .none := by rcases hst with e | e <;> simp [e]
    refine ⟨fun hks => absurd (hk.symm.trans hks) nofun, ?_, ?_, nofun⟩
    · exact hf.origin.trans (by simp [hne])
    · exact hf.wantedAt.trans (by simp [hne])
  · exact h

theorem stopAckExpired_kept {c : Call} (h : c.stop = .sent) : CallKept k c (stopAckExpired c) := by
  refine ⟨rfl, fun hf => ⟨fun hk => ?_, ?_, ?_, nofun⟩, fun i _ ha => absurd ha.2.1 (by simp [h]), Or.inl⟩
  · exact Or.inr ((hf.stops hk).resolve_left (by simp [h]))
  · exact hf.origin.trans (by simp [h, stopAckExpired])
  · exact hf.wantedAt.trans (by simp [h, stopAckExpired])

theorem TableInv.takeRestart (h : TableInv stops sales k s) (u : Unit) : TableInv stops sales k (takeRestart u s) := by
  unfold Machine.takeRestart
  split <;> first | exact h.setLink _ | exact h

theorem TableInv.takeAdmit (h : TableInv stops sales k s) (f : AdmitFields) : TableInv stops sales k (takeAdmit f s) := by
  unfold Machine.takeAdmit
  dsimp only
  split
  · exact (h.setLink _).line rfl rfl id
  · exact h.line rfl rfl id

theorem TableInv.takeSaleAck (h : TableInv stops sales k s) (n : Nat) : TableInv stops sales k (takeSaleAck n s) := by
  unfold Machine.takeSaleAck
  split
  · exact h
  · split
    · exact h
    · exact h.congr rfl rfl rfl id fun hs => hs.congr rfl rfl rfl rfl id

theorem TableInv.takeGrant (h : TableInv stops sales k s) (f : Nat × Nat) : TableInv stops sales k (takeGrant f s) := by
  unfold Machine.takeGrant
  refine TableInv.offerReply ?_ _ _ _
  split
  · exact h.congr rfl rfl rfl id fun hs => hs.congr rfl rfl rfl rfl id
  · exact h

theorem TableInv.takeHold (h : TableInv stops sales k s) (u : Unit) : TableInv stops sales k (takeHold u s) := by
  unfold Machine.takeHold
  split
  · split
    next ha => exact h.setHold (hold := .asked) (limit := none) (fun _ => id) (fun _ => id) nofun (fun _ => ha) rfl
    next ha =>
      exact (h.setHold (hold := .held) (limit := some Config.holdLimit) (fun _ => id) (fun _ => id)
        (fun _ => by simpa using ha) nofun rfl).offerHoldGranted
  · exact h
  · exact h.offerHoldGranted

theorem TableInv.freeHold (h : TableInv stops sales k s) : TableInv stops sales k (Machine.setHold .free none s) :=
  h.setHold (hold := .free) (limit := none) (fun _ => id) (fun _ => id) nofun nofun rfl

theorem TableInv.takeRelease (h : TableInv stops sales k s) (u : Unit) : TableInv stops sales k (takeRelease u s) := by
  unfold Machine.takeRelease
  split
  · exact h
  · exact h.freeHold
  · exact h.freeHold.offerHoldEnded _

/-! ## The time base (R54 to R62) -/

theorem TableInv.clock (h : TableInv stops sales k s) {c : Clock} (set : c.timeState = .unset → s.clock.timeState = .unset) :
    TableInv stops sales k { s with clock := c } := h.other rfl rfl rfl set

@[simp] theorem lock_timeState (s : State) : (lock s).clock.timeState = .locked := by
  unfold lock
  dsimp only
  split <;> rfl

theorem TableInv.lock (h : TableInv stops sales k s) : TableInv stops sales k (lock s) :=
  h.other (by simp) (by simp) (by simp) (by simp)

theorem TableInv.beaconLink (h : TableInv stops sales k s) : TableInv stops sales k (beaconLink s) := by
  unfold Machine.beaconLink
  split
  · exact h.setLink _
  · split <;> exact h.setLink _
  all_goals exact h

theorem TableInv.storeCondition (h : TableInv stops sales k s) (b : BeaconFields) :
    TableInv stops sales k (storeCondition b s) := by
  unfold Machine.storeCondition
  split
  · exact h
  · refine TableInv.rebuild (TableInv.latchS (TableInv.latchV ?_ _) _)
    exact h.line rfl rfl id

theorem TableInv.raiseRollover (h : TableInv stops sales .none s) : TableInv stops sales k (raiseRollover s) :=
  TableInv.rolloverCalls (h.clock (c := { s.clock with day := s.clock.day + 1 }) id)

theorem TableInv.stepForward (h : TableInv stops sales .none s) (n : Nat) : TableInv stops sales .none (stepForward n s) := by
  unfold Machine.stepForward
  dsimp only
  split
  · exact TableInv.raiseRollover (h.clock id)
  · exact h.clock id

theorem TableInv.startSlew (h : TableInv stops sales k s) (n : Nat) : TableInv stops sales k (startSlew n s) := h.clock id

theorem TableInv.afterCorrection (h : TableInv stops sales k s) (b : BeaconFields) (t : TimeOfDay) (stepped : Bool) :
    TableInv stops sales k (afterCorrection b t stepped s) := by
  have h' : TableInv stops sales k (Machine.lock (adoptDay b t s)) := TableInv.lock (h.clock id)
  unfold Machine.afterCorrection
  dsimp only
  split
  · exact h'.evaluateAll.rebuild
  · split
    · exact h'.rebuild
    · exact h'

theorem TableInv.beaconTime (h : TableInv stops sales .none s) (b : BeaconFields) :
    TableInv stops sales .none (beaconTime b s) := by
  have set : TableInv stops sales .none (setByBeacon b s) := by
    refine TableInv.rebuild (TableInv.recomputeAll (TableInv.lock ?_))
    exact h.clock id
  have measured : TableInv stops sales .none (measureBeacon b s) := by
    unfold measureBeacon
    dsimp only
    split
    · refine TableInv.statusCause ?_
      exact h.clock id
    · split
      · exact (h.stepForward _).afterCorrection _ _ _
      · split <;> exact (h.startSlew _).afterCorrection _ _ _
  unfold Machine.beaconTime
  dsimp only
  split
  · exact h.clock id
  · split
    · exact set.clock id
    · exact measured.clock id

theorem TableInv.takeSetTime (h : TableInv stops sales k s) (f : Nat × BitVec 16) :
    TableInv stops sales k (takeSetTime f s) := by
  unfold Machine.takeSetTime
  split
  · refine TableInv.offerReply (TableInv.rebuild (TableInv.evaluateAll (TableInv.mapActive (TableInv.lock ?_)
      fun c _ => ?_))) _ _ _
    · exact h.clock id
    · split
      · exact CallKept.refl _ c
      · exact (recompute_keepsStop k c).kept
  · exact h.offerReply _ _ _

theorem countDown_isSome (t : Timer) : (countDown t).isSome = t.isSome := by cases t <;> rfl

theorem TableInv.tickTimers (h : TableInv stops sales k s) : TableInv stops sales k (tickTimers s) := by
  refine TableInv.congr (s := s.mapActive fun c => { c with ackTimer := countDown c.ackTimer })
    (h.mapActive fun c _ => KeepsStop.kept ⟨rfl, rfl, rfl, rfl, fun ht => (countDown_isSome _).symm.trans ht, Or.inl⟩)
    rfl rfl rfl id fun hs => ⟨fun hh => ?_, fun hh => ?_, fun hu => ?_, ?_, fun x hx => ?_⟩
  · exact Option.map_eq_none_iff.2 (hs.held hh)
  · exact (hs.asked hh).imp (fun hi => Option.isSome_map.trans hi) id
  · exact Option.map_eq_none_iff.2 (hs.unset hu)
  · exact (countDown_isSome _).trans hs.limit
  · obtain ⟨y, hy, rfl⟩ := Option.map_eq_some_iff.1 hx
    exact hs.bound y hy

theorem tickClock_timeState (c : Clock) : (tickClock c).timeState = c.timeState := by
  unfold tickClock
  split <;> rfl

theorem TableInv.crystalStep (h : TableInv stops sales .none s) : TableInv stops sales .none (crystalStep s) := by
  have h' : TableInv stops sales .none { Machine.tickTimers s with clock := tickClock (Machine.tickTimers s).clock } :=
    h.tickTimers.clock fun hu => (tickClock_timeState _).symm.trans hu
  unfold Machine.crystalStep
  dsimp only
  split
  · exact h'.raiseRollover.rebuild
  · exact h'

end Commands

end Sys2Proof.Machine

/-! The invariant of the call table under the loads, the frames of the line, the sales and the resets; every step keeps it. -/

namespace Sys2Proof.Machine

-- One theorem at a time: the whole text is checked in one process.
set_option Elab.async false

section Commands

variable {stops sales : Prop} {k : Slack} {s : State}

/-! ## Loads (R7 to R12) -/

theorem freshCall_toScheduled (r : Scheduled) : (freshCall r).toScheduled = r := (recompute_keepsStop .none _).sched

/-- A record in range enters a bank that holds its service number or has room (R5, R7). -/
theorem GoodBank.put {bank : List Call} (h : GoodBank bank) {c : Call} (hc : c.toScheduled.InRange)
    (room : (bankFind c.service bank).isSome = true ∨ bank.length < Config.bankSize) : GoodBank (bankPut c bank) := by
  refine ⟨bankPut_sorted h.sorted c, ?_, fun x hx => ?_⟩
  · rcases room with hf | hl
    · obtain ⟨d, hd⟩ := Option.isSome_iff_exists.1 hf
      rw [bankPut_length_of_mem h.sorted (bankFind_some hd).1 (bankFind_some hd).2]
      exact h.size
    · exact (bankPut_length c bank).trans hl
  · rcases (mem_bankPut h.sorted c x).1 hx with rfl | hx
    · exact hc
    · exact h.inRange x hx.1

theorem loadCallOutcome_accepted {f : LoadCallFields} (h : loadCallOutcome s f = .accepted) :
    f.record.timesOk = true ∧ ((bankFind f.record.service (if f.bank = 0 then s.calls.active else s.calls.next)).isSome = true
      ∨ (if f.bank = 0 then s.calls.active else s.calls.next).length < Config.bankSize) := by
  unfold loadCallOutcome at h
  dsimp only at h
  generalize (if f.bank = 0 then s.calls.active else s.calls.next) = bank at h ⊢
  split at h
  · cases h
  · split at h
    · cases h
    · split at h
      · cases h
      next ht =>
        split at h
        next hr => exact ⟨by simpa using ht, by simpa using hr⟩
        · cases h

theorem TableInv.loadNext (h : TableInv stops sales k s) {r : Scheduled} (hr : r.InRange)
    (room : (bankFind r.service s.calls.next).isSome = true ∨ s.calls.next.length < Config.bankSize) :
    TableInv stops sales k (loadNext r s) := by
  have hs := freshCall_toScheduled r
  have hv : (freshCall r).service = r.service := congrArg Scheduled.service hs
  exact ⟨⟨h.bank.active, h.bank.next.put (hs.symm ▸ hr) (hv.symm ▸ room), nofun⟩, h.fields, h.queue,
    fun hs => (h.sale hs).congr rfl rfl rfl rfl id⟩

theorem freshCall_fields (r : Scheduled) : StopFieldsBut k (freshCall r) :=
  (recompute_keepsStop k { toScheduled := r, toLive := Live.cleared }).fields ⟨fun _ => Or.inl rfl, rfl, rfl, nofun⟩

/-- A record joins the ACTIVE bank in a place that was free (R9). -/
theorem TableInv.join (h : TableInv stops sales k s) {c : Call} (good : GoodBank (bankPut c s.calls.active))
    (fields : StopFieldsBut k c) (free : ∀ d ∈ s.calls.active, d.service ≠ c.service) :
    TableInv stops sales k { s with calls := { s.calls with active := bankPut c s.calls.active } } := by
  have sorted := h.bank.active.sorted
  have old : ∀ d ∈ s.calls.active, d ∈ bankPut c s.calls.active := fun d hd =>
    (mem_bankPut sorted c d).2 (Or.inr ⟨hd, free d hd⟩)
  refine ⟨⟨good, h.bank.next, h.bank.empty⟩, fun hs d hd => ?_, fun hs => ⟨fun i hi n hn => ?_, (h.queue hs).once,
    (h.queue hs).routine, (h.queue hs).head⟩, fun hs => ⟨(h.sale hs).held, (h.sale hs).asked, (h.sale hs).unset,
    (h.sale hs).limit, fun x hx hq n hn => ?_⟩⟩
  · rcases (mem_bankPut sorted c d).1 hd with rfl | hd
    · exact fields
    · exact h.fields hs d hd.1
  · exact ((h.queue hs).queued i hi n hn).imp fun d ⟨hd, ha⟩ => ⟨old d hd, ha⟩
  · exact ((h.sale hs).bound x hx hq n hn).imp fun d ⟨hd, ha⟩ => ⟨old d hd, ha⟩

theorem TableInv.addActive (h : TableInv stops sales k s) {r : Scheduled} (hr : r.InRange) (free : s.call r.service = none)
    (room : s.calls.active.length < Config.bankSize) : TableInv stops sales k (addActive r s) := by
  have hs := freshCall_toScheduled r
  have hv : (freshCall r).service = r.service := congrArg Scheduled.service hs
  refine TableInv.evaluateCall (h.join (h.bank.active.put (hs.symm ▸ hr) (Or.inr room)) (freshCall_fields r) ?_) _
  exact fun d hd => hv.symm ▸ bankFind_none.1 free d hd

/-- The scheduled fields of a call are replaced by those of a record in range (R10). The kind may become STOPS while a stop
is still wanted: the call is then left open. -/
theorem TableInv.reschedule (h : TableInv stops sales .none s) {r : Scheduled} (hr : r.InRange)
    (kind : r.kind = .request ∨ (∀ c ∈ s.calls.active, c.service = r.service → c.kind = .stops) ∨ r.service ∈ k.odd) :
    TableInv stops sales k (s.mapCall r.service fun c => { c with toScheduled := r }) := by
  have service : ∀ c : Call, (if c.service = r.service then { c with toScheduled := r } else c : Call).service = c.service :=
    fun c => by
      split
      next hn => exact hn.symm
      next => rfl
  refine ⟨⟨⟨?_, ?_, fun c hc => ?_⟩, h.bank.next, h.bank.empty⟩, fun hs c hc => ?_, fun hs => ?_, fun hs => ?_⟩
  · rw [State.mapCall_active, List.pairwise_map]
    exact h.bank.active.sorted.imp fun hcd => by rw [service, service]; exact hcd
  · rw [State.mapCall_active, List.length_map]
    exact h.bank.active.size
  · obtain ⟨d, hd, rfl⟩ := List.mem_map.1 hc
    split
    · exact hr
    · exact h.bank.active.inRange d hd
  · obtain ⟨d, hd, rfl⟩ := List.mem_map.1 hc
    have hf := (h.fields hs d hd).mono (k := .none) (m := k) nofun nofun
    split
    next hn =>
      refine ⟨fun hk => ?_, hf.origin, hf.wantedAt, fun ht => (hf.ackTimer ht).imp id fun ho => hn ▸ ho⟩
      rcases kind with hq | hst | ho
      · exact absurd (hq.symm.trans hk) nofun
      · exact hn ▸ hf.stops (hst d hd hn)
      · exact Or.inr ho
    next => exact hf
  · refine ⟨fun i hi n hn => ?_, (h.queue hs).once, (h.queue hs).routine, (h.queue hs).head⟩
    obtain ⟨c, hc, hsv, ha⟩ := (h.queue hs).queued i hi n hn
    have ha' := ha.mono (k := .none) (m := k) nofun nofun
    refine ⟨_, List.mem_map_of_mem hc, (service c).trans hsv, ?_⟩
    split
    next he =>
      refine ⟨?_, ha'.2.1, he ▸ ha'.2.2.1, ha'.2.2.2.trans (by rw [stopItem, stopItem, he])⟩
      rcases kind with hq | hst | ho
      · exact Or.inl hq
      · have hnone := (h.fields hs c hc).stops (hst c hc he)
        rw [ha.2.1] at hnone
        exact absurd hnone (by simp [Slack.none])
      · exact Or.inr ho
    next => exact ha'
  · refine ⟨(h.sale hs).held, fun hh => ((h.sale hs).asked hh).imp id nofun, (h.sale hs).unset, (h.sale hs).limit,
      fun x hx hq n hn => ?_⟩
    obtain ⟨c, hc, hsv, hsl⟩ := (h.sale hs).bound x hx hq n hn
    refine ⟨_, List.mem_map_of_mem hc, (service c).trans hsv, Or.inl ?_⟩
    split <;> exact hsl.resolve_right List.not_mem_nil

theorem stopCleared_fields {c : Call} : StopFieldsBut k (stopCleared c) := ⟨fun _ => Or.inl rfl, rfl, rfl, nofun⟩

theorem TableInv.replaceActive (h : TableInv stops sales .none s) {r : Scheduled} (hr : r.InRange) {old : Call}
    (hold : s.call r.service = some old) : TableInv stops sales .none (replaceActive old r s) := by
  have only : ∀ c ∈ s.calls.active, c.service = r.service → c = old := fun c hc hsv => by
    rw [← hsv, State.call, h.bank.active.find hc] at hold
    exact Option.some.inj hold
  unfold Machine.replaceActive changeKind
  split
  next hk =>
    have h' : TableInv stops sales { odd := [r.service] } _ :=
      (h.reschedule (k := { odd := [r.service] }) hr (Or.inr (Or.inr (List.mem_singleton.2 rfl)))).recomputeCall r.service
    exact h'.unask r.service (fun c _ _ => ⟨rfl, fun _ => stopCleared_fields, rfl⟩) rfl
      (fun o ho => Or.inl (List.mem_singleton.1 ho)) rfl
  next hk =>
    have kind : r.kind = .request ∨ (∀ c ∈ s.calls.active, c.service = r.service → c.kind = .stops)
        ∨ r.service ∈ Slack.none.odd := by
      cases hrk : r.kind with
      | request => exact Or.inl rfl
      | stops =>
        refine Or.inr (Or.inl fun c hc hsv => ?_)
        rw [only c hc hsv]
        cases hok : old.kind with
        | stops => rfl
        | request => simp [hrk, hok] at hk
    have h' := (h.reschedule (k := .none) hr kind).recomputeCall r.service
    split
    · exact h'.wantStop _ _
    · exact h'

theorem TableInv.takeLoadCall (h : TableInv stops sales .none s) {p : List Byte} {f : LoadCallFields}
    (hf : readLoadCall p = some f) : TableInv stops sales .none (takeLoadCall f s) := by
  unfold Machine.takeLoadCall
  refine TableInv.offerReply ?_ _ _ _
  split
  next ho =>
    obtain ⟨ht, room⟩ := loadCallOutcome_accepted ho
    have hr := readLoadCall_inRange hf ht
    unfold carryLoadCall
    split
    next hb =>
      rw [if_pos hb] at room
      split
      next old hold => exact (h.replaceActive hr hold).rebuild
      next hnone =>
        rw [State.call] at hnone
        exact (h.addActive hr hnone (room.resolve_left (by simp [hnone]))).rebuild
    next hb =>
      rw [if_neg hb] at room
      exact h.loadNext hr room
  · exact h

theorem TableInv.takeLoadClear (h : TableInv stops sales k s) (u : Unit) : TableInv stops sales k (takeLoadClear u s) := by
  refine TableInv.offerReply ?_ _ _ _
  exact ⟨⟨h.bank.active, .nil, fun _ => rfl⟩, h.fields, h.queue, fun hs => (h.sale hs).congr rfl rfl rfl rfl id⟩

theorem TableInv.takeLoadEnd (h : TableInv stops sales k s) (n : Nat) : TableInv stops sales k (takeLoadEnd n s) := by
  unfold Machine.takeLoadEnd
  split
  · refine TableInv.offerReply ?_ _ _ _
    exact ⟨⟨h.bank.active, h.bank.next, nofun⟩, h.fields, h.queue, fun hs => (h.sale hs).congr rfl rfl rfl rfl id⟩
  · exact h.offerReply _ _ _

theorem TableInv.fares (h : TableInv stops sales k s) (f : FareTable) : TableInv stops sales k { s with fares := f } :=
  h.other rfl rfl rfl id

theorem TableInv.takeFareDest (h : TableInv stops sales k s) (f : Nat × Nat) : TableInv stops sales k (takeFareDest f s) := by
  refine TableInv.offerReply ?_ _ _ _
  split
  · exact h.fares _
  · exact h

theorem TableInv.takeFarePrice (h : TableInv stops sales k s) (b : PriceBlock) :
    TableInv stops sales k (takeFarePrice b s) := by
  unfold Machine.takeFarePrice
  split
  · exact (h.fares _).offerReply _ _ _
  · exact h.offerReply _ _ _

theorem TableInv.takeConcession (h : TableInv stops sales k s) (f : ConcessionFields) :
    TableInv stops sales k (takeConcession f s) := by
  unfold Machine.takeConcession
  split
  · exact h.offerReply _ _ _
  · split
    · exact h.offerReply _ _ _
    · exact (h.fares _).offerReply _ _ _

theorem TableInv.screen (h : TableInv stops sales k s) (c : Screen) : TableInv stops sales k { s with screen := c } :=
  h.other rfl rfl rfl id

theorem TableInv.takeParams (h : TableInv stops sales k s) (p : Params) : TableInv stops sales k (takeParams p s) := by
  refine TableInv.offerReply (TableInv.rebuild (TableInv.screen (TableInv.recomputeAll ?_) _)) _ _ _
  exact h.line rfl rfl id

/-! ## Frames of the line (R114 to R118) -/

/-- The item of a frame that starts is at the head of its queue (R114, R115). -/
theorem startFrame_atHead {src : TxSource} (h : nextSource s.line = some src) {l : Line} (urgent : l.urgent = s.line.urgent)
    (routine : l.routine = s.line.routine) : (startFrame src s).atHead l := by
  unfold nextSource at h
  unfold TxFrame.atHead
  cases src with
  | join => rfl
  | sale n => rfl
  | urgentItem i =>
    intro _
    rw [urgent]
    split at h <;> try cases h
    · split at h <;> cases h
    · split at h
      next hu =>
        split at h <;> cases h
        rw [hu]; rfl
      next =>
        split at h
        · split at h <;> try cases h
          split at h <;> cases h
        · cases h
  | routineItem i =>
    intro _
    rw [routine]
    split at h <;> try cases h
    · split at h <;> cases h
    · split at h
      · split at h <;> cases h
      next =>
        split at h
        · split at h
          next hr _ => cases h; rw [hr]; rfl
          next hr _ =>
            split at h <;> cases h
            rw [hr]; rfl
          · cases h
          · cases h
        · cases h

theorem TableInv.frame (h : TableInv stops sales k s) {l : Line} (urgent : l.urgent = s.line.urgent)
    (routine : l.routine = s.line.routine) (tx : ∀ f ∈ l.tx, f.atHead l) :
    TableInv stops sales k { s with line := l } := h.line urgent routine fun _ => tx

theorem echoFrame_source (e : Symbol) (f : TxFrame) : (echoFrame e f).source = f.source := by
  unfold echoFrame
  split
  · split
    · rfl
    · split <;> rfl
  · rfl

theorem echoFrame_queued (e : Symbol) (f : TxFrame) : (echoFrame e f).queued = f.queued := by
  unfold echoFrame
  split
  · split
    · rfl
    · split <;> rfl
  · rfl

theorem TableInv.statusSent (h : TableInv stops sales k s) (f : TxFrame) : TableInv stops sales k (statusSent f s) := by
  unfold Machine.statusSent Line.statusSent Line.offerStatus
  dsimp only
  generalize (if (f.reused && !f.rearmed) = true then false else s.line.tableReused) = reused
  have h' : TableInv stops sales k { s with line := { s.line with tableReused := reused, statusOwed := false } } :=
    h.line rfl rfl id
  split
  · exact h'.enqueue s.line.classMap.status (i := .status) rfl
  · exact h'

/-- The call of a STOP_REQUEST that has been sent, its item out of the queue (R21). -/
theorem TableInv.markSent (h : TableInv stops sales k s) (n : Nat)
    (hq : stops → (∃ c ∈ s.calls.active, c.service = n ∧ ∃ i, Asks k i c) ∧ ∀ i ∈ s.line.urgent, i.stopOf ≠ some n) :
    TableInv stops sales k (s.mapCall n markSent) := by
  have same : ∀ c : Call, (if c.service = n then Machine.markSent c else c).toScheduled = c.toScheduled := fun c => by
    split <;> rfl
  have state : ∀ c : Call, (if c.service = n then Machine.markSent c else c).state = c.state := fun c => by
    split <;> rfl
  refine ⟨⟨h.bank.active.map same, h.bank.next, h.bank.empty⟩, fun hs c hc => ?_, fun hs => ?_, fun hs => ?_⟩
  · obtain ⟨d, hd, rfl⟩ := List.mem_map.1 hc
    have hf := h.fields hs d hd
    split
    next hn =>
      obtain ⟨⟨c, hc, hcn, i, ha⟩, -⟩ := hq hs
      obtain rfl : c = d := h.bank.active.unique hc hd (hcn.trans hn.symm)
      refine ⟨fun hk => ?_, ?_, ?_, fun _ => ⟨rfl, ha.2.2.1⟩⟩
      · exact Or.inr ((hf.stops hk).resolve_left (by simp [ha.2.1]))
      · exact hf.origin.trans (by simp [ha.2.1, Machine.markSent])
      · exact hf.wantedAt.trans (by simp [ha.2.1, Machine.markSent])
    next => exact hf
  · refine ⟨fun i hi m hm => ?_, (h.queue hs).once, (h.queue hs).routine, (h.queue hs).head⟩
    obtain ⟨c, hc, hsv, ha⟩ := (h.queue hs).queued i hi m hm
    have hne : c.service ≠ n := by
      rintro rfl
      exact (hq hs).2 i hi (hsv ▸ hm)
    exact ⟨c, List.mem_map.2 ⟨c, hc, if_neg hne⟩, hsv, ha⟩
  · refine ⟨(h.sale hs).held, (h.sale hs).asked, (h.sale hs).unset, (h.sale hs).limit, fun x hx hxq m hm => ?_⟩
    obtain ⟨c, hc, hsv, hsl⟩ := (h.sale hs).bound x hx hxq m hm
    exact ⟨_, List.mem_map_of_mem hc, (congrArg Scheduled.service (same c)).trans hsv, by rw [state]; exact hsl⟩

/-- The head of the urgent queue leaves it, no frame being on the line; the STOP_REQUEST of a call is the only one of that
call. -/
theorem QueuedStops.tail {bank : List Call} {l : Line} (h : QueuedStops k bank l) (tx : l.tx = none) :
    QueuedStops k bank { l with urgent := l.urgent.tail } ∧ ∀ i, l.urgent.head? = some i → ∀ n ∈ i.stopOf,
      (∃ c ∈ bank, c.service = n ∧ ∃ i, Asks k i c) ∧ ∀ j ∈ l.urgent.tail, j.stopOf ≠ some n := by
  refine ⟨⟨fun i hi => h.queued i (List.mem_of_mem_tail hi), h.once.sublist ((List.tail_sublist _).filterMap _), h.routine,
    fun f hf => by rw [tx] at hf; cases hf⟩, fun i hi n hn => ⟨?_, fun j hj hjn => ?_⟩⟩
  · obtain ⟨c, hc, hsv, ha⟩ := h.queued i (List.mem_of_mem_head? hi) n hn
    exact ⟨c, hc, hsv, i, ha⟩
  · obtain ⟨rest, hr⟩ := List.head?_eq_some_iff.1 hi
    have once := h.once
    rw [hr, List.filterMap_cons_some hn, List.nodup_cons] at once
    rw [hr] at hj
    exact once.1 (List.mem_filterMap.2 ⟨j, hj, hjn⟩)

theorem TableInv.itemSent (h : TableInv stops sales k s) (f : TxFrame) (i : Item)
    (hq : stops → f.queued = true → ∀ n ∈ i.stopOf,
      (∃ c ∈ s.calls.active, c.service = n ∧ ∃ i, Asks k i c) ∧ ∀ j ∈ s.line.urgent, j.stopOf ≠ some n) :
    TableInv stops sales k (itemSent f i s) := by
  unfold Machine.itemSent
  split
  next n _ _ =>
    split
    next hfq => exact (h.markSent n fun hs => hq hs hfq n rfl).rebuild
    · exact h
  · exact h.statusSent f
  all_goals exact h

theorem TableInv.raiseThreshold (h : TableInv stops sales k s) (src : TxSource) :
    TableInv stops sales k (raiseThreshold src s) := h.line rfl rfl fun _ => nofun

theorem TableInv.sourceSent (h : TableInv stops sales k s) (f : TxFrame) (tx : s.line.tx = none)
    (head : stops → f.atHead s.line) : TableInv stops sales k (sourceSent f s) := by
  unfold TxFrame.atHead at head
  unfold Machine.sourceSent
  split
  · exact h.line rfl rfl id
  next i hsrc =>
    split
    next hfq =>
      have h' : TableInv stops sales k { s with line := { s.line with urgent := s.line.urgent.tail } } :=
        ⟨h.bank.congr rfl, h.fields, fun hs => ((h.queue hs).tail tx).1, fun hs => (h.sale hs).congr rfl rfl rfl rfl id⟩
      refine TableInv.offerStops (h'.itemSent f i fun hs _ => ((h.queue hs).tail tx).2 i ?_)
      have := head hs
      rw [hsrc] at this
      exact this hfq
    next hfq => exact h.itemSent f i fun _ hfq' => absurd hfq' hfq
  next i hsrc =>
    have noStop : stops → f.queued = true → i.stopOf = none := fun hs hfq => by
      have := head hs
      rw [hsrc] at this
      exact (h.queue hs).routine i (List.mem_of_mem_head? (this hfq))
    have h' : TableInv stops sales k { s with line := { s.line with turn := .journal } } := h.line rfl rfl id
    have h'' : TableInv stops sales k
        { s with line := { s.line with turn := .journal, routine := s.line.routine.tail } } :=
      ⟨h.bank.congr rfl, h.fields, fun hs => ⟨(h.queue hs).queued, (h.queue hs).once,
          fun j hj => (h.queue hs).routine j (List.mem_of_mem_tail hj), fun g hg => by rw [tx] at hg; cases hg⟩,
        fun hs => (h.sale hs).congr rfl rfl rfl rfl id⟩
    dsimp only
    split
    · exact h''.itemSent f i fun hs hfq n hn => by rw [noStop hs hfq] at hn; cases hn
    · exact h'.itemSent f i fun hs hfq n hn => by rw [noStop hs hfq] at hn; cases hn
  · exact h.line rfl rfl id

theorem TableInv.faultLink (h : TableInv stops sales k s) : TableInv stops sales k (faultLink s) := by
  unfold Machine.faultLink
  split
  · split <;> first | exact h.setLink _ | exact h
  · exact h

/-! ## Sales (R82 to R88) -/

/-- What the checks of an accepted QUOTE leave (R82, R83): the time is set, the hold is FREE, and a call it names is in a
saleable state. -/
theorem quoteRefusal_none {q : QuoteFields} (h : quoteRefusal s q = none) :
    s.clock.timeState ≠ .unset ∧ s.issue.hold = .free ∧
      ∀ n ∈ q.service, ∃ c ∈ s.calls.active, c.service = n ∧ c.state.saleable = true := by
  unfold quoteRefusal at h
  split at h
  · cases h
  next hset =>
    split at h
    · cases h
    next hfree =>
      refine ⟨by simpa [State.timeSet] using hset, by simpa using hfree, fun n hn => ?_⟩
      rw [Option.mem_def] at hn
      iterate 3 (split at h; · cases h)
      rw [hn, Option.bind_some] at h
      cases hcs : callChecks s q.dest n with
      | some r => rw [hcs] at h; cases h
      | none =>
        unfold callChecks at hcs
        split at hcs
        · cases hcs
        · split at hcs
          · cases hcs
          next c hc =>
            split at hcs
            · cases hcs
            · split at hcs
              · cases hcs
              next hsl =>
                rw [State.call] at hc
                exact ⟨c, (bankFind_some hc).1, (bankFind_some hc).2, by simpa using hsl⟩

theorem TableInv.respond (h : TableInv stops sales k s) (port : Port) (r : Response) :
    TableInv stops sales k (respond port r s) := h.setPort port _

theorem TableInv.answer (h : TableInv stops sales k s) (port : Port) (p : List Byte) :
    TableInv stops sales k (answer port p s) := h.setPort port _

theorem TableInv.carryQuote (h : TableInv stops sales k s) (port : Port) (q : QuoteFields) :
    TableInv stops sales k (carryQuote port q s) := by
  unfold Machine.carryQuote
  split
  · exact h.setPort port _
  next hq =>
    obtain ⟨hset, hfree, hcall⟩ := quoteRefusal_none hq
    refine TableInv.answer (TableInv.evalDemand ?_) _ _
    refine h.congr rfl rfl rfl id fun hs => ⟨fun hh => ?_, fun hh => ?_, fun hu => ?_, hs.limit, fun x hx _ n hn => ?_⟩
    · exact absurd (hfree.symm.trans hh) nofun
    · exact Or.inl rfl
    · exact absurd hu hset
    · cases hx
      obtain ⟨c, hc, hsv, hsl⟩ := hcall n hn
      exact ⟨c, hc, hsv, Or.inl hsl⟩

theorem TableInv.commitSale (h : TableInv stops sales k s) (x : Sale) (t : Ticket) :
    TableInv stops sales k (commitSale x t s) := by
  have h1 : TableInv stops sales k (appendTicket t s) :=
    h.congr rfl rfl rfl id fun hs => hs.congr rfl rfl rfl rfl id
  have h2 : TableInv stops sales k (reportCommit x.call (appendTicket t s)) := by
    unfold reportCommit
    split
    · exact h1
    · refine TableInv.wantStop ?_ _ _
      exact h1.mapCall fun c _ _ => KeepsStop.kept ⟨rfl, rfl, rfl, rfl, id, Or.inl⟩
  unfold Machine.commitSale
  dsimp only
  generalize reportCommit x.call (appendTicket t s) = u at h2 ⊢
  generalize (decide (Config.lowWater ≤ remaining s.issue.blocks) && _) = crossed
  have hn : TableInv stops sales k
      (Machine.grantAsked (nearFullTest (Machine.lowWater crossed { u with issue := { u.issue with sale := none } }))) := by
    have h3 : TableInv stops sales { k with ending := true }
        (nearFullTest (Machine.lowWater crossed { u with issue := { u.issue with sale := none } })) := by
      unfold nearFullTest
      split
      · exact (h2.dropSale.lowWater crossed).latchV _
      · exact h2.dropSale.lowWater crossed
    refine h3.grantAsked ?_ (fun _ => id) fun _ => id
    rw [nearFullTest_issue]
    unfold Machine.lowWater
    split <;> rfl
  split
  · exact hn.rebuild
  · exact hn.evalDemand

theorem TableInv.carryCommit (h : TableInv stops sales k s) (port : Port) (n : Nat) :
    TableInv stops sales k (carryCommit port n s) := by
  unfold Machine.carryCommit
  split
  · exact (h.commitSale _ _).answer _ _
  · exact h.setPort _ _
  · exact h.setPort _ _

theorem TableInv.carryRelease (h : TableInv stops sales k s) (port : Port) (u : Unit) :
    TableInv stops sales k (carryRelease port u s) := by
  refine TableInv.answer ?_ _ _
  split
  · exact h.endSale.evalDemand
  · exact h

/-! ## Resets (R64 to R66) -/

theorem QueuedStops.nil {bank : List Call} {l : Line} (urgent : l.urgent = []) (routine : l.routine = []) (tx : l.tx = none) :
    QueuedStops k bank l :=
  ⟨by simp [urgent], by simp [urgent], by simp [routine], by simp [tx]⟩

theorem SaleBut.reset {i : Issue} (h : s.issue = i) (sale : i.sale = none) (hold : i.hold = .free) (limit : i.limitTimer = none) :
    SaleBut k s := by
  subst h
  exact ⟨fun _ => sale, fun hh => absurd (hold.symm.trans hh) nofun, fun _ => sale, by rw [limit, hold]; rfl,
    fun x hx => by rw [sale] at hx; cases hx⟩

theorem TableInv.coldStart (pins : ResetPins) (s : State) : TableInv stops sales k (coldStart pins s) :=
  ⟨⟨.nil, .nil, fun _ => rfl⟩, fun _ _ hc => absurd hc List.not_mem_nil, fun _ => .nil (l := Line.reset) rfl rfl rfl,
    fun _ => .reset (i := Issue.reset) rfl rfl rfl rfl⟩

theorem TableInv.warmStart (h : TableInv stops sales k s) (pins : ResetPins) :
    TableInv stops sales k (warmStart pins s) :=
  ⟨h.bank.congr rfl, h.fields, fun _ => .nil rfl rfl rfl, fun _ => .reset rfl rfl rfl rfl⟩

/-- A call whose stop was SENT has no STOP_REQUEST queued, so that its stop may be wanted again (R24). -/
theorem warmStop_kept (c : Call) : CallKept k c (warmStop c) := by
  unfold warmStop
  split
  next hst =>
    have hst : c.stop = .wanted ∨ c.stop = .sent := by simpa using hst
    have hne : c.stop ≠ .none := by rcases hst with e | e <;> simp [e]
    refine ⟨rfl, fun hf => ⟨fun hk => Or.inr ((hf.stops hk).resolve_left hne), hf.origin.trans (by simp [hne]),
      hf.wantedAt.trans (by simp [hne]), nofun⟩, fun i _ ha => ⟨ha.1, rfl, ha.2.2⟩, Or.inl⟩
  · exact CallKept.refl k c

theorem TableInv.warmActions (h : TableInv stops sales .none s) : TableInv stops sales .none (warmActions s) := by
  have h1 : TableInv stops sales .none (owedRollover s) := by
    unfold owedRollover
    split
    · refine TableInv.rolloverCalls ?_
      exact h.clock id
    · exact h
  have h2 : TableInv stops sales .none (warmCalls (owedRollover s)) :=
    (h1.mapActive fun c _ => warmStop_kept c).recomputeAll.offerStops
  unfold Machine.warmActions heldOverDeparture
  split
  · exact (h2.platform _).reportDeparture _ _
  · exact h2

theorem TableInv.endReset (h : TableInv stops sales k s) (straps : BitVec 4) :
    TableInv stops sales k (endReset straps s) := by
  unfold Machine.endReset
  refine TableInv.evalDemandAt (TableInv.other (s := readStraps straps (Machine.lowWater false s)) (t := firstBoard _) ?_ rfl rfl rfl id) _
  unfold readStraps
  split
  · exact h.lowWater _
  · exact (h.lowWater _).line rfl rfl id

/-! ## Every command -/

theorem TableInv.message {α : Type} {d : DownKind} {read : List Byte → Option α} {carryOut : α → State → State} {addr : Byte}
    {p : List Byte} (h : TableInv stops sales k s)
    (carried : ∀ v t, read p = some v → TableInv stops sales k t → TableInv stops sales k (carryOut v t)) :
    TableInv stops sales k (onMessage d read carryOut addr p s) :=
  onMessage_keeps TableInv.frameDone (fun _ ht => ht.onMalformed d) carried h

theorem TableInv.request {α : Type} {cmd : Command} {read : List Byte → Option α} {carryOut : α → State → State}
    {port : Port} {req : Request} (h : TableInv stops sales k s)
    (carried : ∀ v t, TableInv stops sales k t → TableInv stops sales k (carryOut v t)) :
    TableInv stops sales k (onRequest cmd read carryOut port req s) :=
  onRequest_keeps (fun _ q _ ht => ht.setPort port q) carried h

end Commands

end Sys2Proof.Machine

/-! Every command keeps the invariant of the call table; the banks and the stops (O53), and the sale and the hold (O54). -/

namespace Sys2Proof.Machine

-- One theorem at a time: the whole text is checked in one process.
set_option Elab.async false

section Commands

variable {stops sales : Prop} {k : Slack} {s : State}

theorem TableInv.answers_message {α : Type} {d : DownKind} {read : List Byte → Option α} {carryOut : α → State → State}
    {addr : Byte} {p : List Byte} (h : TableInv stops sales .none s)
    (carried : ∀ v t, read p = some v → TableInv stops sales .none t → TableInv stops sales .none (carryOut v t)) :
    Answers (TableInv stops sales .none) (.next (onMessage d read carryOut addr p s)) :=
  answers_next.2 (h.message carried)

theorem TableInv.answers_request {α : Type} {cmd : Command} {read : List Byte → Option α} {carryOut : α → State → State}
    {port : Port} {req : Request} (h : TableInv stops sales k s)
    (carried : ∀ v t, TableInv stops sales k t → TableInv stops sales k (carryOut v t)) :
    Answers (TableInv stops sales k) (.next (onRequest cmd read carryOut port req s)) :=
  answers_next.2 (h.request carried)

theorem TableInv.carryNotices (h : TableInv stops sales k s) (port : Port) (m : Option (BitVec 16)) :
    TableInv stops sales k (carryNotices port m s) :=
  TableInv.answer (TableInv.setPort h port _) _ _

theorem TableInv.carryScreen (h : TableInv stops sales k s) (port : Port) (f : ScreenFields) :
    TableInv stops sales k (carryScreen port f s) := by
  have trim : TableInv stops sales k (setTrim f.trim s) := by
    unfold setTrim
    split
    · exact h.screen _
    · exact h
  refine TableInv.answer ?_ _ _
  unfold setMode
  split
  · exact (trim.screen _).evalDemand
  · exact trim

theorem TableInv.carryReady (h : TableInv stops sales k s) (port : Port) (u : Unit) :
    TableInv stops sales k (carryReady port u s) := by
  refine TableInv.answer ?_ _ _
  split
  · exact h.screen _
  · exact h

theorem TableInv.carryQuiet (h : TableInv stops sales k s) (port : Port) (u : Unit) :
    TableInv stops sales k (carryQuiet port u s) := by
  unfold Machine.carryQuiet
  split
  · exact h.setPort _ _
  · split
    · exact h.setPort _ _
    · refine TableInv.answer (TableInv.screen (TableInv.other (s := s) (t := sigpwrOff s) h rfl rfl rfl id) _) _ _

theorem TableInv.sport (h : TableInv stops sales k s) (p : PortState) : TableInv stops sales k { s with sport := p } :=
  h.other rfl rfl rfl id

theorem TableInv.vport (h : TableInv stops sales k s) (p : PortState) : TableInv stops sales k { s with vport := p } :=
  h.other rfl rfl rfl id

theorem TableInv.countBad (h : TableInv stops sales k s) : TableInv stops sales k (countBad s) := h.line rfl rfl id

theorem TableInv.frameDiscarded (h : TableInv stops sales k s) (addr kind : Byte) (p : List Byte) :
    Answers (TableInv stops sales k) (execFrameDiscarded addr kind p s) := by
  refine answers_ite (fun _ => ?_) fun _ => answers_next.2 h
  split
  · exact answers_guard (fun _ => h) h.frameDone
  · exact answers_guard (fun _ => h.frameDone.countBad) h.frameDone

theorem TableInv.unknownCommand (h : TableInv stops sales k s) (port : Port) (req : Request) :
    Answers (TableInv stops sales k) (execUnknownCommand port req s) := by
  unfold execUnknownCommand
  split
  · exact answers_next.2 h
  · exact answers_guard
      (fun _ => onTransaction_keeps (fun _ q _ ht => ht.setPort port q) (fun _ _ ht => ht.setPort port _) h) h

theorem TableInv.upwardFrameStart (h : TableInv stops sales k s) :
    Answers (TableInv stops sales k) (execUpwardFrameStart s) := by
  unfold execUpwardFrameStart
  split
  next _ hsrc =>
    refine answers_next.2 (h.frame rfl rfl fun f hf => ?_)
    obtain rfl := Option.some.inj hf
    exact startFrame_atHead hsrc rfl rfl
  · exact answers_next.2 h

theorem TableInv.symbolPeriodEnd (h : TableInv stops sales k s) (message echo : Symbol) :
    Answers (TableInv stops sales k) (execSymbolPeriodEnd message echo s) := by
  have clock : TableInv stops sales k
      { s with clock := if message = .space && hearsStart s then recordStart s.clock else s.clock } :=
    h.clock fun hu => by
      split at hu <;> exact hu
  refine answers_next.2 (clock.line rfl rfl fun head f hf => ?_)
  obtain ⟨g, hg, rfl⟩ := Option.map_eq_some_iff.1 hf
  exact (head g hg).of_frame (echoFrame_source echo g) (echoFrame_queued echo g)

theorem TableInv.dropFrame (h : TableInv stops sales k s) {l : Line} (urgent : l.urgent = s.line.urgent)
    (routine : l.routine = s.line.routine) (tx : l.tx = none) : TableInv stops sales k { s with line := l } :=
  h.frame urgent routine fun f hf => by
    rw [tx] at hf
    cases hf

theorem TableInv.frameComplete (h : TableInv stops sales k s) :
    Answers (TableInv stops sales k) (execFrameComplete s) := by
  unfold execFrameComplete
  split
  next f hf =>
    refine answers_guard (fun _ => (h.raiseThreshold f.source).sourceSent f rfl fun hs => ?_) h
    exact ((h.queue hs).head f hf).of_heads (fun _ => id) fun _ => id
  · exact answers_next.2 h

theorem TableInv.occAsserted (h : TableInv stops sales k s) : Answers (TableInv stops sales k) (execOccAsserted s) := by
  have ht := h.platform { s.platform with occ := true }
  unfold execOccAsserted
  dsimp only
  split
  · exact answers_next.2 (ht.platform _)
  · exact answers_next.2 ht
  · exact answers_ite (fun _ => answers_next.2 ht) fun _ =>
      answers_guard (fun _ => (ht.platform _).decideStop.rebuild) (ht.platform _)
  all_goals exact answers_guard (fun _ => ht) (ht.platform _)

theorem TableInv.occReleased (h : TableInv stops sales k s) : Answers (TableInv stops sales k) (execOccReleased s) := by
  have ht := h.platform { s.platform with occ := false }
  unfold execOccReleased
  dsimp only
  split
  · exact answers_next.2 ht
  · exact answers_next.2 (ht.platform _)
  all_goals exact answers_guard (fun _ => ht) (ht.platform _)

theorem TableInv.releaseTimerExpiry (h : TableInv stops sales k s) :
    Answers (TableInv stops sales k) (execReleaseTimerExpiry s) := by
  refine answers_ite (fun _ => ?_) fun _ => answers_next.2 h
  split
  · exact answers_next.2 h.decidePass.rebuild
  · exact answers_next.2 h.decideDeparture.rebuild
  · exact answers_next.2 h.endBlind
  all_goals exact answers_next.2 h

theorem TableInv.buttonPress (h : TableInv stops sales k s) : Answers (TableInv stops sales k) (execButtonPress s) := by
  refine answers_ite (fun _ => ?_) fun _ => answers_next.2 h
  have ht := (h.platform { s.platform with
    lastPress := some s.clock.crystal, buttonDemand := some Config.demandTime }).latchS .stopButton
  dsimp only
  split
  · exact answers_guard (fun _ => (ht.wantStop _ _).rebuild) ht.evalDemand
  · exact answers_next.2 ht.evalDemand

theorem TableInv.settlingExpiry (h : TableInv stops sales k s) :
    Answers (TableInv stops sales k) (execSettlingExpiry s) := by
  refine answers_ite (fun _ => answers_next.2 h) fun _ => ?_
  split
  · exact answers_next.2 (h.screen _)
  · exact answers_next.2 (h.other rfl rfl rfl id)
  all_goals exact answers_next.2 h

theorem TableInv.stopAckTimeout (h : TableInv stops sales k s) (n : Nat) :
    Answers (TableInv stops sales k) (execStopAckTimeout n s) := by
  refine answers_guard (fun hg => TableInv.rebuild (TableInv.offerStops (h.mapCall fun c hc hn => ?_))) h
  obtain ⟨hs, -⟩ : c.stop = .sent ∧ c.ackTimer = some 0 := by
    rw [State.call, ← hn, h.bank.active.find hc] at hg
    simpa using hg
  exact stopAckExpired_kept hs

/-- Every command, in every state, keeps the banks, the stops and the sale sound. -/
theorem TableInv.exec (c : Instr) (h : TableInv stops sales .none s) :
    Answers (TableInv stops sales .none) (Machine.exec c s) := by
  cases c with
  | fullReset pins =>
    exact answers_ite (fun _ => answers_next.2 (TableInv.endReset (.coldStart pins s) _)) fun _ =>
      answers_next.2 ((h.warmStart pins).warmActions.endReset _)
  | vbakLow => exact answers_next.2 (h.clock id)
  | vendingPortHold | signagePortHold => exact answers_next.2 (h.other rfl rfl rfl id)
  | vendingPortReset selLow =>
    have ht := h.vport (s.vport.release selLow)
    refine answers_next.2 ?_
    split
    · exact ht.endSale.evalDemand
    · exact ht
  | signagePortReset => exact answers_next.2 (h.other rfl rfl rfl id)
  | strapRead straps =>
    refine answers_guard (fun _ => TableInv.setLink ?_ _) h
    exact h.line rfl rfl id
  | occAsserted => exact h.occAsserted
  | occReleased => exact h.occReleased
  | buttonPress => exact h.buttonPress
  | ambPulse => exact answers_next.2 (h.screen _)
  | crystalTick => exact answers_next.2 h.crystalStep
  | time port | salesState port | board port | condition port =>
    exact h.answers_request fun _ _ ht => ht.answer port _
  | calls port => exact h.answers_request fun _ _ ht => TableInv.answer ht port _
  | quote port => exact h.answers_request fun q _ ht => ht.carryQuote port q
  | commit port => exact h.answers_request fun n _ ht => ht.carryCommit port n
  | releaseRequest port => exact h.answers_request fun u _ ht => ht.carryRelease port u
  | notices port => exact h.answers_request fun m _ ht => ht.carryNotices port m
  | screen port => exact h.answers_request fun f _ ht => ht.carryScreen port f
  | ready port => exact h.answers_request fun u _ ht => ht.carryReady port u
  | quiet port => exact h.answers_request fun u _ ht => ht.carryQuiet port u
  | collection port clocked =>
    exact answers_ite (fun _ => answers_next.2 h) fun _ => answers_next.2
      (onTransaction_keeps (fun _ q _ ht => ht.setPort port q) (fun _ _ ht => ht.setPort port _) h)
  | unknownCommand port req => exact h.unknownCommand port req
  | downwardFrameStart =>
    exact answers_guard (fun _ => (h.clock (c := recordStart s.clock) id).line rfl rfl id) h
  | badFrame =>
    refine answers_guard (fun _ => TableInv.countBad ?_) h
    exact h.line rfl rfl id
  | frameDiscarded addr kind p => exact h.frameDiscarded addr kind p
  | beacon => exact h.answers_message fun b _ _ ht => (ht.beaconLink.storeCondition b).beaconTime b
  | delay => exact h.answers_message fun f _ _ ht => ht.takeDelay f
  | cancel => exact h.answers_message fun n _ _ ht => ht.takeCancel n
  | reinstate => exact h.answers_message fun n _ _ ht => ht.takeReinstate n
  | restart => exact h.answers_message fun u _ _ ht => ht.takeRestart u
  | admission => exact h.answers_message fun f _ _ ht => ht.takeAdmit f
  | stopAck => exact h.answers_message fun n _ _ ht => ht.takeStopAck n
  | saleAck => exact h.answers_message fun n _ _ ht => ht.takeSaleAck n
  | serialGrant => exact h.answers_message fun f _ _ ht => ht.takeGrant f
  | hold => exact h.answers_message fun u _ _ ht => ht.takeHold u
  | releaseMessage => exact h.answers_message fun u _ _ ht => ht.takeRelease u
  | loadCall => exact h.answers_message fun _ _ hf ht => ht.takeLoadCall hf
  | loadClear => exact h.answers_message fun u _ _ ht => ht.takeLoadClear u
  | loadEnd => exact h.answers_message fun n _ _ ht => ht.takeLoadEnd n
  | loadFareDest => exact h.answers_message fun f _ _ ht => ht.takeFareDest f
  | loadFarePrice => exact h.answers_message fun b _ _ ht => ht.takeFarePrice b
  | loadConcession => exact h.answers_message fun f _ _ ht => ht.takeConcession f
  | loadParams => exact h.answers_message fun p _ _ ht => ht.takeParams p
  | setTime => exact h.answers_message fun f _ _ ht => ht.takeSetTime f
  | upwardFrameStart => exact h.upwardFrameStart
  | frameComplete => exact h.frameComplete
  | contentionLoss => exact answers_guard (fun _ => h.dropFrame rfl rfl rfl) h
  | lineFault =>
    refine answers_guard (fun _ => TableInv.faultLink ?_) h
    exact h.dropFrame rfl rfl rfl
  | thresholdReturn => exact answers_next.2 (h.line rfl rfl id)
  | quoteLapse =>
    refine answers_guard (fun _ => TableInv.evalDemand ?_) h
    exact (h.dropSale.latchV .quoteLapsed).grantAsked rfl (fun _ => id) fun _ => id
  | holdExpiry => exact answers_guard (fun _ => h.freeHold.offerHoldEnded .expired) h
  | serialAskRepeat =>
    refine answers_guard (fun _ => TableInv.lowWater ?_ false) h
    exact h.congr rfl rfl rfl id fun hs => hs.congr rfl rfl rfl rfl id
  | holdoverExpiry =>
    refine answers_guard (fun _ => TableInv.rebuild (TableInv.latchS (TableInv.latchV ?_ _) _)) h
    exact h.clock nofun
  | stopAckTimeout n => exact h.stopAckTimeout n
  | ackTimerExpiry | joinTimerExpiry => exact answers_guard (fun _ => h.line rfl rfl id) h
  | admissionTimeout | silenceTimeout | lostTimeout => exact answers_guard (fun _ => h.setLink _) h
  | statusPeriod =>
    refine answers_guard (fun _ => TableInv.statusCause ?_) h
    exact h.line rfl rfl id
  | quoteDemandExpiry =>
    refine answers_guard (fun _ => TableInv.evalDemand ?_) h
    exact h.congr rfl rfl rfl id fun hs => hs.congr rfl rfl rfl rfl id
  | buttonDemandExpiry => exact answers_guard (fun _ => (h.platform _).evalDemand) h
  | settleExpiry => exact answers_guard (fun _ => h.platform _) h
  | stopThresholdExpiry =>
    exact answers_ite (fun _ => answers_guard (fun _ => h.platform _) (h.platform _).decideStop.rebuild) fun _ =>
      answers_next.2 h
  | releaseTimerExpiry => exact h.releaseTimerExpiry
  | standingExpiry =>
    exact answers_ite (fun _ => answers_guard (fun _ => (h.platform _).offerObservation _ _ _) (h.platform _)) fun _ =>
      answers_next.2 h
  | readyTimeout =>
    refine answers_guard (fun _ => TableInv.statusCause ?_) h
    exact h.other rfl rfl rfl id
  | settlingExpiry => exact h.settlingExpiry
  | idleDelayExpiry => exact answers_guard (fun _ => ((h.screen _).latchS .screenState).evalDemand) h
  | faultRetryExpiry => exact answers_guard (fun _ => (h.screen _).statusCause.evalDemand) h
  | ambientWindowEnd =>
    refine answers_guard (fun _ => ?_) h
    exact h.other rfl rfl rfl id
  | duePointReached n | lapsePointReached n => exact answers_guard (fun _ => (h.evaluateCall n).rebuild) h
  | horizonEntryReached | displayEndReached | stalenessPointReached => exact answers_guard (fun _ => h.rebuild) h
  | wakeEntryReached => exact answers_guard (fun _ => h.evalDemand) h
  | rollover => exact answers_guard (fun _ => h.crystalStep) h
  | selRisesInDiscard port => exact answers_guard (fun _ => h.setPort port _) h
  | symbolPeriodEnd message echo => exact h.symbolPeriodEnd message echo

end Commands

end Sys2Proof.Machine

/-! The banks and the stops (O53), and the sale and the hold (O54), through every step. -/

namespace Sys2Proof.Machine

-- One theorem at a time: the whole text is checked in one process.
set_option Elab.async false

theorem step_keeps_table {stops sales : Prop} {s t : State} (h : step s = .next t)
    (hs : TableInv stops sales .none s) : TableInv stops sales .none t := by
  refine step_keeps_of_answers (fun s q hs => ?_) (fun c s hs => hs.exec c) h hs
  exact hs.other rfl rfl rfl id

/-- Settles O53: `TableInv.exec` for the banks alone, and for the banks with the stops. -/
theorem bankAndStopKept : Obligations.BankAndStopKept := by
  unfold Obligations.BankAndStopKept
  intro s t h bank
  have onlyBank : TableInv False False .none s := ⟨bank, False.elim, False.elim, False.elim⟩
  refine ⟨(step_keeps_table h onlyBank).bank, fun stop => ?_⟩
  obtain ⟨fields, queue⟩ := stopInv_iff.1 stop
  have both : TableInv True False .none s := ⟨bank, fun _ => fields, fun _ => queue, False.elim⟩
  have ht := step_keeps_table h both
  exact stopInv_iff.2 ⟨ht.fields trivial, ht.queue trivial⟩

/-- Settles O54: `TableInv.exec` for the banks with the sale. -/
theorem saleKept : Obligations.SaleKept := by
  unfold Obligations.SaleKept
  intro s t h bank sale
  have both : TableInv False True .none s := ⟨bank, False.elim, False.elim, fun _ => saleInv_iff.1 sale⟩
  exact saleInv_iff.2 ((step_keeps_table h both).sale trivial)

end Sys2Proof.Machine


/-! The two ports between commands (R186, R187, R201): which changes of a port keep it sound. -/

namespace Sys2Proof.Machine

-- One theorem at a time: the whole text is checked in one process.
set_option Elab.async false

/-! ## One port -/

section Port

variable {port : Port} {p q : PortState}

/-- Only the framing, the octets, the notices and the mask of a port are judged. -/
theorem PortInv.congr (h : PortInv port p) (notices : q.notices = p.notices := by rfl) (mask : q.mask = p.mask := by rfl)
    (framing : q.framing = p.framing := by rfl) (octets : q.octets = p.octets := by rfl) : PortInv port q := by
  constructor
  · rw [notices]; exact h.notices
  · rw [mask]; exact h.mask
  · rw [framing]; exact h.framing
  · rw [octets]; exact h.octets

theorem PortInv.latch (h : PortInv port p) {bit : BitVec 16} (known : bit &&& ~~~noticePositions port = 0) :
    PortInv port (p.latch bit) := by
  unfold PortState.latch
  split
  · exact h
  · refine ⟨?_, h.mask, h.framing, h.octets⟩
    show (p.notices ||| bit) &&& ~~~noticePositions port = 0
    rw [BitVec.and_comm, BitVec.and_or_distrib_left, BitVec.and_comm _ p.notices, h.notices, BitVec.and_comm _ bit, known]
    rfl

/-- A port that has been reset is sound, whatever it was (R186, R196, R197). -/
theorem PortInv.afterReset (p : PortState) (selLow : Bool) : PortInv port (p.afterReset selLow) := by
  refine ⟨BitVec.zero_and, BitVec.zero_and, ?_, rfl⟩
  cases selLow
  · exact .inl rfl
  · exact .inr rfl

theorem PortInv.hold (h : PortInv port p) (isPowered selLow : Bool) : PortInv port (p.hold isPowered selLow) := by
  unfold PortState.hold
  split
  · exact ⟨h.notices, h.mask, .inr rfl, rfl⟩
  · exact h.congr

end Port

/-! ## Both ports -/

/-- A step that keeps each port sound. -/
def PortsKept (s t : State) : Prop := ∀ port, PortInv port (portOf s port) → PortInv port (portOf t port)

namespace PortsKept

variable {s t u : State}

theorem refl (s : State) : PortsKept s s := fun _ => id

theorem trans (h : PortsKept s t) (h' : PortsKept t u) : PortsKept s u := fun port => h' port ∘ h port

theorem of_ports (vending : PortInv .vending s.vport → PortInv .vending t.vport)
    (signage : PortInv .signage s.sport → PortInv .signage t.sport) : PortsKept s t := fun port =>
  match port with
  | .vending => vending
  | .signage => signage

theorem of_same (vending : t.vport = s.vport) (signage : t.sport = s.sport) : PortsKept s t :=
  of_ports (vending ▸ id) (signage ▸ id)

theorem of_setPort {port : Port} {q : PortState} (h : PortInv port (portOf s port) → PortInv port q) :
    PortsKept s (setPort s port q) := by
  cases port
  · exact of_ports h id
  · exact of_ports id h

theorem of_latchV (n : VNotice) (h : PortsKept s t) : PortsKept s (latchV n t) :=
  h.trans (of_ports (fun hp => hp.latch (by cases n <;> decide)) id)

theorem of_latchS (n : SNotice) (h : PortsKept s t) : PortsKept s (latchS n t) :=
  h.trans (of_ports id fun hp => hp.latch (by cases n <;> decide))

end PortsKept

end Sys2Proof.Machine

/-! What most operations leave alone: the clock, the stores, the monitor, the stock, the link and the drain; and what they
keep: the discipline of the queues (R131, R132, R148), the supply chain (R169 to R182) and the ports (R186). -/

namespace Sys2Proof.Machine

-- One theorem at a time: the whole text is checked in one process.
set_option Elab.async false

/-- A line that differs in its outbound queues and the marks of its frame and its STATUS only, and that keeps the discipline
of the queues. -/
structure Line.Queued (l m : Line) : Prop where
  same : m = { l with
    urgent := m.urgent, routine := m.routine, tx := m.tx, tableReused := m.tableReused, statusOwed := m.statusOwed,
    discards := m.discards }
  source : m.tx.map TxFrame.source = l.tx.map TxFrame.source
  queues : QueueInv l → QueueInv m

section Line

variable {l m k : Line}

theorem Line.Queued.refl (l : Line) : l.Queued l := ⟨rfl, rfl, id⟩

theorem Line.Queued.trans (h : l.Queued m) (h' : m.Queued k) : l.Queued k :=
  ⟨h'.same.trans (by rw [h.same]), h'.source.trans h.source, h'.queues ∘ h.queues⟩

theorem QueueInv.discard (h : QueueInv l) : QueueInv { l with discards := satSucc Config.countTop l.discards } :=
  ⟨h.urgent, h.routine, h.oneStatus, h.owed, ⟨h.counts.1, h.counts.2.1, h.counts.2.2.1, satSucc_le ..⟩⟩

/-- An item joins a queue that has room; a STATUS does so only while none is queued (R148). -/
theorem QueueInv.enqueue (h : QueueInv l) (c : AccessClass) {i : Item} (hi : i.isStatus = true → l.statusQueued = false) :
    QueueInv (l.enqueue c i) := by
  have one : (((l.urgent ++ l.routine).filter Item.isStatus).length + ([i].filter Item.isStatus).length) ≤ 1 := by
    cases hs : i.isStatus with
    | false => simpa [hs] using h.oneStatus
    | true =>
      have none : l.urgent.filter Item.isStatus = [] ∧ l.routine.filter Item.isStatus = [] := by
        have := hi hs
        rw [Line.statusQueued, Bool.or_eq_false_iff, List.any_eq_false, List.any_eq_false] at this
        exact ⟨List.filter_eq_nil_iff.2 this.1, List.filter_eq_nil_iff.2 this.2⟩
      simp [none.1, none.2, hs]
  rcases l.enqueue_cases c i with ⟨-, room, he⟩ | ⟨-, room, he⟩ | ⟨-, he⟩ <;> rw [he]
  · refine ⟨?_, h.routine, ?_, h.owed, h.counts⟩
    · simpa [Config.urgentSize] using room
    · simp only [List.filter_append, List.length_append] at one ⊢
      omega
  · refine ⟨h.urgent, ?_, ?_, h.owed, h.counts⟩
    · simpa [Config.routineSize] using room
    · simp only [List.filter_append, List.length_append] at one ⊢
      omega
  · exact h.discard

theorem Line.Queued.enqueue (c : AccessClass) {i : Item} (hi : i.isStatus = true → l.statusQueued = false) :
    l.Queued (l.enqueue c i) := ⟨rfl, rfl, fun h => h.enqueue c hi⟩

theorem TxFrame.offUrgent_source (f : TxFrame) : f.offUrgent.source = f.source := rfl

theorem headRemoved_source (tx : Option TxFrame) : (headRemoved tx).map TxFrame.source = tx.map TxFrame.source := by
  rw [headRemoved_eq, Option.map_map]
  rfl

/-- A frame on the line keeps what it carries while its marks change. -/
theorem QueueInv.retag (h : QueueInv l) {urgent routine : List Item} {tx : Option TxFrame}
    (hu : urgent.length ≤ Config.urgentSize) (hr : routine.length ≤ Config.routineSize)
    (one : ((urgent ++ routine).filter Item.isStatus).length ≤ 1) (source : tx.map TxFrame.source = l.tx.map TxFrame.source) :
    QueueInv { l with urgent := urgent, routine := routine, tx := tx } := by
  refine ⟨hu, hr, one, fun ho => ?_, h.counts⟩
  obtain ⟨f, hf, hc⟩ := h.owed ho
  have hs : tx.map TxFrame.source = some f.source := source.trans (by rw [Option.mem_def.1 hf]; rfl)
  obtain ⟨g, hg, hgs⟩ := Option.map_eq_some_iff.1 hs
  exact ⟨g, hg, by rw [TxFrame.carriesStatus, hgs]; exact hc⟩

theorem length_filter_append_le {urgent urgent' routine : List Item} (h : urgent'.Sublist urgent) :
    ((urgent' ++ routine).filter Item.isStatus).length ≤ ((urgent ++ routine).filter Item.isStatus).length :=
  ((h.append (List.Sublist.refl routine)).filter _).length_le

theorem Line.Queued.removeStop (n : Nat) : l.Queued (l.removeStop n) := by
  have source : (l.removeStop n).tx.map TxFrame.source = l.tx.map TxFrame.source := by
    unfold Line.removeStop
    dsimp only
    split
    · exact headRemoved_source _
    · rfl
  have sub : (l.removeStop n).urgent.Sublist l.urgent := List.filter_sublist
  exact ⟨rfl, source, fun h => h.retag (sub.length_le.trans h.urgent) h.routine
    ((length_filter_append_le sub).trans h.oneStatus) source⟩

/-- A full queue that holds an item other than a STOP_REQUEST loses one (R132). -/
theorem dropOldestOther_length {is : List Item} (h : is.all Item.isStop = false) :
    (dropOldestOther is).length + 1 = is.length := by
  induction is with
  | nil => cases h
  | cons i is ih =>
    unfold dropOldestOther
    split
    next hi =>
      rw [List.all_cons, hi, Bool.true_and] at h
      rw [List.length_cons, ih h, List.length_cons]
    next => rfl

theorem Line.Queued.offerStop {i : Item} (hi : i.isStatus = false) (h : l.offerStop i = some m) : l.Queued m := by
  rcases l.offerStop_cases i with ⟨room, he⟩ | ⟨-, -, he⟩ | ⟨full, other, he⟩ <;> rw [h] at he
  · cases he
    refine ⟨rfl, rfl, fun h => h.retag (by simpa [Config.urgentSize] using room) h.routine ?_ rfl⟩
    simpa [List.filter_append, hi] using h.oneStatus
  · cases he
  · cases he
    have source : (if (l.urgent.head?.any Item.isStop) = true then l.tx else headRemoved l.tx).map TxFrame.source
        = l.tx.map TxFrame.source := by
      split
      · rfl
      · exact headRemoved_source _
    have sub := dropOldestOther_sublist l.urgent
    refine ⟨rfl, source, fun h => QueueInv.discard (QueueInv.retag h ?_ h.routine ?_ source)⟩
    · have := dropOldestOther_length other
      have := h.urgent
      simp only [List.length_append, List.length_singleton]
      omega
    · have := (length_filter_append_le (routine := l.routine) sub).trans h.oneStatus
      simpa [List.filter_append, hi] using this

theorem Line.Queued.offerAll (cs : List Call) (l : Line) : l.Queued (Line.offerAll cs l) := by
  induction cs generalizing l with
  | nil => exact .refl l
  | cons c cs ih =>
    unfold Line.offerAll
    split
    next m hm => exact (Line.Queued.offerStop rfl hm).trans (ih m)
    next => exact .refl l

theorem Line.Queued.statusCause (l : Line) : l.Queued l.statusCause := by
  unfold Line.statusCause
  split
  next hq => exact .enqueue _ fun _ => by simpa using hq
  · split
    next hc =>
      refine ⟨rfl, rfl, fun h => ⟨h.urgent, h.routine, h.oneStatus, fun _ => ?_, h.counts⟩⟩
      cases htx : l.tx with
      | none => simp [htx] at hc
      | some f =>
        rw [htx, Option.any_some, Bool.and_eq_true] at hc
        exact ⟨f, rfl, hc.1⟩
    · exact .refl l

/-- A re-arm marks the STATUS frame on the line (R23). -/
theorem Line.Queued.rearm (l : Line) : l.Queued { l with
    tableReused := true
    tx := l.tx.map fun f => if f.carriesStatus then { f with rearmed := true } else f } := by
  have source : (l.tx.map fun f => if f.carriesStatus then { f with rearmed := true } else f).map TxFrame.source
      = l.tx.map TxFrame.source := by
    rw [Option.map_map]
    congr 1
    funext f
    rw [Function.comp_apply]
    split <;> rfl
  refine ⟨rfl, source, fun h => ?_⟩
  have h' := h.retag h.urgent h.routine h.oneStatus source
  exact ⟨h'.urgent, h'.routine, h'.oneStatus, h'.owed, h'.counts⟩

end Line

/-! ## The supply chain -/

section Supply

variable {s t : State}

theorem SupplyInv.congr (h : SupplyInv s) (screen : t.screen = s.screen) (params : t.line.params = s.line.params) :
    SupplyInv t := by
  constructor <;> rw [screen]
  exacts [h.outputs, h.sigpwr, h.quiet, h.ready, h.settling, h.idle, h.retry, by rw [params]; exact h.level, h.trim, h.run,
    h.ambient]

/-- The chain wakes from DARK, by one of its two paths (R170). -/
theorem SupplyInv.wake (h : SupplyInv s) (dark : s.screen.supply = .dark) (selLow : Bool) : SupplyInv (wake selLow s) := by
  have outputs := h.outputs
  have level := h.level
  have ready := h.ready
  have idle := h.idle
  have retry := h.retry
  have settling := h.settling
  simp only [dark, outputsOf, settlingOf, Prod.mk.injEq] at outputs level ready idle retry settling
  obtain ⟨lamp, bias, drive⟩ := outputs
  unfold Machine.wake
  split
  next on =>
    exact ⟨by simp [outputsOf, bias, drive], fun _ => on, fun hq => absurd (h.quiet hq) (by simp [on]), ready, rfl,
      fun hi => absurd (idle hi) nofun, retry, level, h.trim, h.run, h.ambient⟩
  next off =>
    exact ⟨by simp [outputsOf, lamp, bias, drive, sigpwrOn], fun _ => rfl, nofun, rfl, settling,
      fun hi => absurd (idle hi) nofun, retry, level, h.trim, h.run, h.ambient⟩

theorem SupplyInv.evalDemandAt (h : SupplyInv s) (selLow : Bool) : SupplyInv (evalDemandAt selLow s) := by
  unfold Machine.evalDemandAt
  split
  next dark =>
    split
    · exact h.wake dark selLow
    · exact h
  next lit => exact ⟨h.outputs, h.sigpwr, h.quiet, h.ready, h.settling, fun _ => lit, h.retry, h.level, h.trim, h.run, h.ambient⟩
  all_goals exact h

end Supply

/-! ## What an operation leaves alone -/

/-- A step from one state to another that leaves alone the clock, the fares, the monitor, the serial stock, the journal and the
line, its queues apart, and keeps the discipline of the queues, the supply chain and the ports. -/
structure Quiet (s t : State) : Prop where
  pending : t.pending = s.pending
  clock : t.clock = s.clock
  fares : t.fares = s.fares
  platform : t.platform = s.platform
  blocks : t.issue.blocks = s.issue.blocks
  journal : t.issue.journal = s.issue.journal
  sequence : t.issue.sequence = s.issue.sequence
  line : s.line.Queued t.line
  supply : SupplyInv s → SupplyInv t
  ports : PortsKept s t

namespace Quiet

variable {s t u : State}

theorem refl (s : State) : Quiet s s := ⟨rfl, rfl, rfl, rfl, rfl, rfl, rfl, .refl _, id, .refl s⟩

theorem trans (h : Quiet s t) (h' : Quiet t u) : Quiet s u :=
  ⟨h'.pending.trans h.pending, h'.clock.trans h.clock, h'.fares.trans h.fares, h'.platform.trans h.platform,
    h'.blocks.trans h.blocks, h'.journal.trans h.journal, h'.sequence.trans h.sequence, h.line.trans h'.line,
    h'.supply ∘ h.supply, h.ports.trans h'.ports⟩

theorem params (h : Quiet s t) : t.line.params = s.line.params := by rw [h.line.same]

/-- An operation that changes the queues of the line, and else only the calls, the board, the sale and the hold, and that keeps
the ports. -/
theorem of_line (line : s.line.Queued t.line) (pending : t.pending = s.pending := by simp) (clock : t.clock = s.clock := by simp)
    (fares : t.fares = s.fares := by simp) (platform : t.platform = s.platform := by simp)
    (blocks : t.issue.blocks = s.issue.blocks := by simp) (journal : t.issue.journal = s.issue.journal := by simp)
    (sequence : t.issue.sequence = s.issue.sequence := by simp) (screen : t.screen = s.screen := by simp)
    (ports : PortsKept s t := by exact .of_same (by simp) (by simp)) : Quiet s t :=
  ⟨pending, clock, fares, platform, blocks, journal, sequence, line, fun h => h.congr screen (by rw [line.same]), ports⟩

/-- An operation that changes only the calls, the board, the sale and the hold, and that keeps the ports. -/
theorem of_same (line : t.line = s.line := by simp) (pending : t.pending = s.pending := by simp)
    (clock : t.clock = s.clock := by simp) (fares : t.fares = s.fares := by simp) (platform : t.platform = s.platform := by simp)
    (blocks : t.issue.blocks = s.issue.blocks := by simp) (journal : t.issue.journal = s.issue.journal := by simp)
    (sequence : t.issue.sequence = s.issue.sequence := by simp) (screen : t.screen = s.screen := by simp)
    (ports : PortsKept s t := by exact .of_same (by simp) (by simp)) : Quiet s t :=
  of_line (line ▸ .refl _) pending clock fares platform blocks journal sequence screen ports

end Quiet

end Sys2Proof.Machine

/-! The operations that are quiet: those of the call table, the board, the queues, the issue unit's sale and hold, the
platform monitor's reports, and the messages and requests made of them. -/

namespace Sys2Proof.Machine

-- One theorem at a time: the whole text is checked in one process.
set_option Elab.async false

section Quiet

variable {s t u : State}

/-! ## The shared operations -/

theorem mapActive_quiet (s : State) (f : Call → Call) : Quiet s (s.mapActive f) := .of_same

theorem mapCall_quiet (s : State) (n : Nat) (f : Call → Call) : Quiet s (s.mapCall n f) := .of_same

theorem latchV_quiet (n : VNotice) (s : State) : Quiet s (latchV n s) :=
  .of_same (ports := .of_latchV n (.refl s))

theorem latchS_quiet (n : SNotice) (s : State) : Quiet s (latchS n s) :=
  .of_same (ports := .of_latchS n (.refl s))

/-- The signage port is reset as SIGPWR turns on (R170, R197). -/
theorem evalDemandAt_ports (b : Bool) (s : State) : PortsKept s (evalDemandAt b s) := by
  unfold evalDemandAt
  split
  · split
    · unfold wake
      split
      · exact .of_same rfl rfl
      · exact .of_ports id fun _ => .afterReset s.sport b
    · exact .refl s
  · exact .of_same rfl rfl
  all_goals exact .refl s

theorem evalDemandAt_quiet (b : Bool) (s : State) : Quiet s (evalDemandAt b s) :=
  ⟨by simp, by simp, by simp, by simp, by simp, by simp, by simp, by simpa using Line.Queued.refl _, fun h => h.evalDemandAt b,
    evalDemandAt_ports b s⟩

theorem evalDemand_quiet (s : State) : Quiet s (evalDemand s) := evalDemandAt_quiet _ s

theorem newBoard_quiet (s : State) : Quiet s (newBoard s) := by
  unfold newBoard
  split
  · exact .refl s
  · exact (Quiet.of_same : Quiet s { s with board := _ }).trans (latchS_quiet .boardChanged _)

theorem rebuild_quiet (s : State) : Quiet s (rebuild s) := (newBoard_quiet s).trans (evalDemand_quiet _)

theorem enqueue_quiet (c : AccessClass) {i : Item} (hi : i.isStatus = false) (s : State) : Quiet s (enqueue c i s) :=
  .of_line (.enqueue c fun h => absurd h (by simp [hi]))

theorem offerObservation_quiet (o : ObservationKind) (n t : Option Nat) (s : State) : Quiet s (offerObservation o n t s) :=
  enqueue_quiet _ rfl s

theorem offerReply_quiet (k : LoadKind) (o : LoadOutcome) (r : Option Nat) (s : State) : Quiet s (offerReply k o r s) :=
  enqueue_quiet _ rfl s

theorem offerHoldGranted_quiet (s : State) : Quiet s (offerHoldGranted s) := enqueue_quiet _ rfl s

theorem offerHoldEnded_quiet (r : EndReason) (s : State) : Quiet s (offerHoldEnded r s) := enqueue_quiet _ rfl s

theorem removeStop_quiet (n : Nat) (s : State) : Quiet s (removeStop n s) := .of_line (by simpa using .removeStop n)

theorem offerStops_quiet (s : State) : Quiet s (offerStops s) := .of_line (by simpa using .offerAll _ _)

theorem statusCause_quiet (s : State) : Quiet s (statusCause s) := .of_line (by simpa using .statusCause _)

theorem reportRearm_quiet (s : State) : Quiet s (reportRearm s) :=
  (Quiet.of_line (.rearm s.line) : Quiet s _).trans (statusCause_quiet _)

theorem setPort_quiet (s : State) (port : Port) (p : PortState) (sound : PortInv port (portOf s port) → PortInv port p) :
    Quiet s (setPort s port p) := .of_same (ports := .of_setPort sound)

theorem respond_quiet (port : Port) (r : Response) (s : State) : Quiet s (respond port r s) :=
  setPort_quiet s port _ fun h => h.congr

theorem answer_quiet (port : Port) (p : List Byte) (s : State) : Quiet s (answer port p s) :=
  respond_quiet port _ s

theorem refuse_quiet (port : Port) (st : Status) (s : State) : Quiet s (refuse port st s) :=
  respond_quiet port _ s

theorem setHold_quiet (h : Hold) (limit : Timer) (s : State) : Quiet s (setHold h limit s) :=
  (Quiet.of_same : Quiet s { s with issue := { s.issue with hold := h, limitTimer := limit } }).trans (latchV_quiet .holdChanged _)

theorem grantAsked_quiet (s : State) : Quiet s (grantAsked s) := by
  unfold grantAsked
  split
  · exact (setHold_quiet _ _ s).trans (offerHoldGranted_quiet _)
  · exact .refl s

theorem issue_quiet (s : State) (i : Issue) (blocks : i.blocks = s.issue.blocks := by rfl)
    (journal : i.journal = s.issue.journal := by rfl) (sequence : i.sequence = s.issue.sequence := by rfl) :
    Quiet s { s with issue := i } :=
  .of_same rfl rfl rfl rfl rfl blocks journal sequence rfl

theorem endSale_quiet (s : State) : Quiet s (endSale s) := (issue_quiet s _).trans (grantAsked_quiet _)

theorem voidSale_quiet (n : Nat) (s : State) : Quiet s (voidSale n s) := by
  unfold voidSale
  split
  · split
    · exact (issue_quiet s _).trans (latchV_quiet _ _)
    · exact .refl s
  · exact .refl s

theorem lowWater_quiet (crossed : Bool) (s : State) : Quiet s (lowWater crossed s) := by
  unfold lowWater
  split
  · exact (enqueue_quiet _ rfl s).trans ((issue_quiet _ _).trans (latchV_quiet _ _))
  · exact .refl s

theorem leaveSaleable_quiet (n : Nat) (s : State) : Quiet s (leaveSaleable n s) :=
  (voidSale_quiet n s).trans ((removeStop_quiet n _).trans (mapCall_quiet _ n _))

theorem leaveAll_quiet (l : List Nat) (s : State) : Quiet s (l.foldl (fun t n => leaveSaleable n t) s) := by
  induction l generalizing s with
  | nil => exact .refl s
  | cons n l ih => exact (leaveSaleable_quiet n s).trans (ih _)

theorem evaluateAll_quiet (s : State) : Quiet s (evaluateAll s) := by
  unfold evaluateAll
  split
  · exact (mapActive_quiet s _).trans (leaveAll_quiet _ _)
  · exact .refl s

theorem recomputeAll_quiet (s : State) : Quiet s (recomputeAll s) := (mapActive_quiet s _).trans (evaluateAll_quiet _)

theorem evaluateCall_quiet (n : Nat) (s : State) : Quiet s (evaluateCall n s) := by
  unfold evaluateCall
  split
  · dsimp only
    split
    · exact (mapCall_quiet s n _).trans (leaveSaleable_quiet n _)
    · exact mapCall_quiet s n _
  · exact .refl s

theorem recomputeCall_quiet (n : Nat) (s : State) : Quiet s (recomputeCall n s) :=
  (mapCall_quiet s n _).trans (evaluateCall_quiet n _)

theorem wantStop_quiet (n : Nat) (o : Origin) (s : State) : Quiet s (wantStop n o s) := by
  unfold wantStop
  split
  · dsimp only
    split
    · exact (mapCall_quiet s n _).trans (offerStops_quiet _)
    · exact mapCall_quiet s n _
  · exact .refl s

/-! ## Rollover and the monitor's reports -/

theorem closeDay_quiet (s : State) : Quiet s (closeDay s) := (mapActive_quiet s _).trans (leaveAll_quiet _ _)

theorem openDay_quiet (s : State) : Quiet s (openDay s) := by
  unfold openDay
  split
  · exact .of_same
  · exact (mapActive_quiet s _).trans (reportRearm_quiet _)

/-- A rollover, the marks of the platform monitor apart (R22, R23). -/
theorem newDay_quiet (s : State) : Quiet s (recomputeAll (openDay (closeDay s))) :=
  (closeDay_quiet s).trans ((openDay_quiet _).trans (recomputeAll_quiet _))

theorem reportDeparture_quiet (n : Nat) (st : Stamp) (s : State) : Quiet s (reportDeparture n st s) := by
  unfold reportDeparture
  split
  · exact (mapCall_quiet s n _).trans ((leaveSaleable_quiet n _).trans (offerObservation_quiet _ _ _ _))
  · exact offerObservation_quiet _ _ _ s

/-! ## Messages -/

theorem takeDelay_quiet (f : DelayFields) (s : State) : Quiet s (takeDelay f s) := by
  unfold takeDelay
  split
  · exact (mapCall_quiet s _ _).trans ((recomputeCall_quiet _ _).trans (rebuild_quiet _))
  · exact .refl s

theorem takeCancel_quiet (n : Nat) (s : State) : Quiet s (takeCancel n s) := by
  unfold takeCancel
  split
  · exact (mapCall_quiet s _ _).trans ((leaveSaleable_quiet _ _).trans (rebuild_quiet _))
  · exact .refl s

theorem takeReinstate_quiet (n : Nat) (s : State) : Quiet s (takeReinstate n s) := by
  unfold takeReinstate
  split
  · refine Quiet.trans ?_ (rebuild_quiet _)
    have recomputed := (mapCall_quiet s n reinstated).trans (recomputeCall_quiet n _)
    split
    · exact recomputed.trans (offerStops_quiet _)
    · exact recomputed
  · exact .refl s

theorem takeStopAck_quiet (n : Nat) (s : State) : Quiet s (takeStopAck n s) := by
  unfold takeStopAck
  split
  · exact (mapCall_quiet s _ _).trans ((removeStop_quiet _ _).trans (rebuild_quiet _))
  · exact .refl s

theorem takeHold_quiet (v : Unit) (s : State) : Quiet s (takeHold v s) := by
  unfold takeHold
  split
  · split
    · exact setHold_quiet _ _ s
    · exact (setHold_quiet _ _ s).trans (offerHoldGranted_quiet _)
  · exact .refl s
  · exact offerHoldGranted_quiet s

theorem takeRelease_quiet (v : Unit) (s : State) : Quiet s (takeRelease v s) := by
  unfold takeRelease
  split
  · exact .refl s
  · exact setHold_quiet _ _ s
  · exact (setHold_quiet _ _ s).trans (offerHoldEnded_quiet _ _)

theorem calls_quiet (s : State) (c : CallTable) : Quiet s { s with calls := c } := .of_same

theorem changeKind_quiet (old : CallKind) (r : Scheduled) (s : State) : Quiet s (changeKind old r s) := by
  unfold changeKind
  split
  · exact (mapCall_quiet s _ _).trans (removeStop_quiet _ _)
  · split
    · exact wantStop_quiet _ _ s
    · exact .refl s

theorem carryLoadCall_quiet (f : LoadCallFields) (s : State) : Quiet s (carryLoadCall f s) := by
  unfold carryLoadCall
  split
  · split
    · exact ((mapCall_quiet s _ _).trans (recomputeCall_quiet _ _)).trans
        ((changeKind_quiet _ _ _).trans (rebuild_quiet _))
    · exact ((calls_quiet s _).trans (evaluateCall_quiet _ _)).trans (rebuild_quiet _)
  · exact calls_quiet s _

theorem takeLoadCall_quiet (f : LoadCallFields) (s : State) : Quiet s (takeLoadCall f s) := by
  refine Quiet.trans ?_ (offerReply_quiet _ _ _ _)
  split
  · exact carryLoadCall_quiet f s
  · exact .refl s

theorem takeLoadClear_quiet (v : Unit) (s : State) : Quiet s (takeLoadClear v s) :=
  (calls_quiet s _).trans (offerReply_quiet _ _ _ _)

theorem takeLoadEnd_quiet (n : Nat) (s : State) : Quiet s (takeLoadEnd n s) := by
  unfold takeLoadEnd
  split
  · exact (calls_quiet s _).trans (offerReply_quiet _ _ _ _)
  · exact offerReply_quiet _ _ _ s

/-! ## Requests -/

/-- A mask that NOTICES takes names notices of its port (R191, R201). -/
theorem readNotices_mask {port : Port} {p : List Byte} {m : Option (BitVec 16)} (h : readNotices port p = some m) :
    ∀ v ∈ m, v &&& ~~~noticePositions port = 0 := by
  unfold readNotices at h
  split at h
  · split at h
    · cases h
      exact nofun
    · split at h
      next known =>
        cases h
        rintro _ ⟨⟩
        exact known
      · cases h
  · cases h

theorem carryNotices_quiet (port : Port) {m : Option (BitVec 16)} (known : ∀ v ∈ m, v &&& ~~~noticePositions port = 0)
    (s : State) : Quiet s (carryNotices port m s) := by
  refine (setPort_quiet s port { portOf s port with
    notices := (portOf s port).notices &&& (portOf s port).mask, mask := m.getD (portOf s port).mask }
      fun h => ⟨?_, ?_, h.framing, h.octets⟩).trans (answer_quiet port _ _)
  · show ((portOf s port).notices &&& (portOf s port).mask) &&& ~~~noticePositions port = 0
    rw [BitVec.and_assoc, h.mask]
    exact BitVec.and_zero
  · cases m with
    | none => exact h.mask
    | some v => exact known v rfl

theorem carryQuote_quiet (port : Port) (q : QuoteFields) (s : State) : Quiet s (carryQuote port q s) := by
  unfold carryQuote
  split
  · exact refuse_quiet port _ s
  · exact (issue_quiet s _).trans ((evalDemand_quiet _).trans (answer_quiet port _ _))

theorem carryRelease_quiet (port : Port) (v : Unit) (s : State) : Quiet s (carryRelease port v s) := by
  refine Quiet.trans ?_ (answer_quiet port _ _)
  split
  · exact (endSale_quiet s).trans (evalDemand_quiet _)
  · exact .refl s

theorem onTransaction_quiet {port : Port} {octets : List Byte} {take : List Byte → State → State}
    (taken : ∀ kept t, Quiet t (take kept t)) : Quiet s (onTransaction port octets take s) :=
  onTransaction_keeps (fun t q hq ht => ht.trans (setPort_quiet t port q hq)) (fun kept t ht => ht.trans (taken kept t)) (.refl s)

theorem onRequest_quiet {α : Type} {cmd : Command} {read : List Byte → Option α} {carryOut : α → State → State} {port : Port}
    {req : Request} (carried : ∀ v t, Quiet t (carryOut v t)) : Quiet s (onRequest cmd read carryOut port req s) :=
  onRequest_keeps (fun t q hq ht => ht.trans (setPort_quiet t port q hq)) (fun v t ht => ht.trans (carried v t)) (.refl s)

end Quiet

end Sys2Proof.Machine

/-! What every command may change: the table of the commands that change the clock, the fares, the monitor, the stock, the
parameters or the drain; and that every command keeps the link (R113 to R125), the queues (R131, R132, R148) and the supply
chain (R169 to R182). -/

namespace Sys2Proof.Machine

-- One theorem at a time: the whole text is checked in one process.
set_option Elab.async false

/-! ## The link -/

section Link

variable {l m : Line}

theorem LinkInv.queued (h : LinkInv l) (q : l.Queued m) : LinkInv m := by
  have source := q.source
  have sends : ∀ f ∈ m.tx, (l.link = .synced ∧ f.source = .join) ∨ (l.link = .admitted ∧ f.source ≠ .join) := fun f hf => by
    have hs : l.tx.map TxFrame.source = some f.source := source.symm.trans (by rw [Option.mem_def.1 hf]; rfl)
    obtain ⟨g, hg, hgs⟩ := Option.map_eq_some_iff.1 hs
    exact hgs ▸ h.sends g hg
  have e := q.same
  generalize m.urgent = urgent, m.routine = routine, m.tx = tx, m.tableReused = reused, m.statusOwed = owed,
    m.discards = discards at e sends
  subst e
  exact ⟨h.address, h.admission, h.silence, h.lost, h.status, h.join, h.joinElse, h.resume, sends, h.urgent, h.routine, h.run,
    h.idle⟩

/-- A change of link state makes the link sound, whatever its timers and its frame were (R119). -/
theorem LinkInv.enter {k : LinkState} (hk : k ≠ .dark) (low : l.address ≠ 0) (high : l.address ≤ 15) (idle : l.idleCount ≤ 255)
    : LinkInv (l.enter k) := by
  refine ⟨⟨high, ?_⟩, ?_, ?_, ?_, ?_, ?_, fun _ => rfl, ?_, nofun, Or.inl rfl, Or.inl rfl, Nat.zero_le _, idle⟩
  · exact ⟨fun h => absurd h low, fun h => absurd h hk⟩
  all_goals cases k <;> simp [Line.enter] at hk ⊢

theorem LinkInv.setLink (h : LinkInv l) (live : l.link ≠ .dark) {k : LinkState} (hk : k ≠ .dark) : LinkInv (l.enter k) :=
  .enter hk (fun h0 => live (h.address.2.1 h0)) h.address.1 h.idle

theorem QueueInv.dropFrame (h : QueueInv l) : QueueInv l.dropFrame := by
  refine ⟨h.urgent, h.routine, h.oneStatus, fun ho => ?_, h.counts⟩
  unfold Line.dropFrame at ho
  dsimp only at ho
  split at ho
  · cases ho
  next hc =>
    obtain ⟨f, hf, hs⟩ := h.owed ho
    rw [Option.mem_def.1 hf] at hc
    exact absurd hs hc

theorem QueueInv.congr (h : QueueInv l) (urgent : m.urgent = l.urgent := by rfl) (routine : m.routine = l.routine := by rfl)
    (owed : m.statusOwed = l.statusOwed := by rfl) (tx : m.tx = l.tx := by rfl) (bad : m.badFrames = l.badFrames := by rfl)
    (contentions : m.contentions = l.contentions := by rfl) (faults : m.faults = l.faults := by rfl)
    (discards : m.discards = l.discards := by rfl) : QueueInv m := by
  constructor
  · rw [urgent]; exact h.urgent
  · rw [routine]; exact h.routine
  · rw [urgent, routine]; exact h.oneStatus
  · rw [owed, tx]; exact h.owed
  · rw [bad, contentions, faults, discards]; exact h.counts

theorem QueueInv.enter (h : QueueInv l) (k : LinkState) : QueueInv (l.enter k) := h.dropFrame.congr

end Link

/-! ## The parts a command may change -/

/-- The parts of the state that only some commands change. -/
structure Touched where
  clock : Bool := false
  fares : Bool := false
  platform : Bool := false
  stock : Bool := false
  params : Bool := false
  drain : Bool := false
  up : Bool := false

/-- The part of the line that the drain of the journal and its frames speak of (R138, R139). -/
structure SameDrain (l m : Line) : Prop where
  cursor : m.cursor = l.cursor
  highest : m.highestSent = l.highestSent
  timer : m.saleAckTimer.isSome = l.saleAckTimer.isSome
  frame : ∀ f ∈ m.tx, ∃ g ∈ l.tx, f.source = g.source

theorem SameDrain.refl (l : Line) : SameDrain l l := ⟨rfl, rfl, rfl, fun f hf => ⟨f, hf, rfl⟩⟩

theorem SameDrain.trans {l m k : Line} (h : SameDrain l m) (h' : SameDrain m k) : SameDrain l k := by
  refine ⟨h'.cursor.trans h.cursor, h'.highest.trans h.highest, h'.timer.trans h.timer, fun f hf => ?_⟩
  obtain ⟨g, hg, hfg⟩ := h'.frame f hf
  obtain ⟨x, hx, hgx⟩ := h.frame g hg
  exact ⟨x, hx, hfg.trans hgx⟩

theorem Line.Queued.drain {l m : Line} (q : l.Queued m) : SameDrain l m := by
  refine ⟨by rw [q.same], by rw [q.same], by rw [q.same], fun f hf => ?_⟩
  have hs : l.tx.map TxFrame.source = some f.source := q.source.symm.trans (by rw [Option.mem_def.1 hf]; rfl)
  obtain ⟨g, hg, hgs⟩ := Option.map_eq_some_iff.1 hs
  exact ⟨g, hg, hgs.symm⟩

/-- A step that changes no part but the touched ones, and keeps the link, the queues, the supply chain and
the ports sound. -/
structure SameBut (k : Touched) (s t : State) : Prop where
  pending : t.pending = s.pending
  clock : k.clock = true ∨ t.clock = s.clock
  fares : k.fares = true ∨ t.fares = s.fares
  platform : k.platform = true ∨ t.platform = s.platform
  stock : k.stock = true ∨
    (t.issue.blocks = s.issue.blocks ∧ t.issue.journal = s.issue.journal ∧ t.issue.sequence = s.issue.sequence)
  params : k.params = true ∨ t.line.params = s.line.params
  drain : k.drain = true ∨ SameDrain s.line t.line
  link : LinkInv s.line → LinkInv t.line
  queues : QueueInv s.line → QueueInv t.line
  supply : SupplyInv s → SupplyInv t
  up : k.up = true ∨ t.line.up = s.line.up
  ports : PortsKept s t

section SameBut

variable {k : Touched} {s t u : State}

theorem SameBut.refl (s : State) : SameBut k s s :=
  ⟨rfl, .inr rfl, .inr rfl, .inr rfl, .inr ⟨rfl, rfl, rfl⟩, .inr rfl, .inr (.refl _), id, id, id, .inr rfl, .refl s⟩

/-- Two steps, each of which changes a part only if it is touched, change it only if it is touched. -/
theorem or_chain {p a b c : Prop} (chain : a → b → c) (h : p ∨ a) (h' : p ∨ b) : p ∨ c :=
  (or_and_left.2 ⟨h, h'⟩).imp_right fun e => chain e.1 e.2

theorem SameBut.trans (h : SameBut k s t) (h' : SameBut k t u) : SameBut k s u where
  pending := h'.pending.trans h.pending
  clock := or_chain (fun e e' => e'.trans e) h.clock h'.clock
  fares := or_chain (fun e e' => e'.trans e) h.fares h'.fares
  platform := or_chain (fun e e' => e'.trans e) h.platform h'.platform
  stock := or_chain (fun e e' => ⟨e'.1.trans e.1, e'.2.1.trans e.2.1, e'.2.2.trans e.2.2⟩) h.stock h'.stock
  params := or_chain (fun e e' => e'.trans e) h.params h'.params
  drain := or_chain SameDrain.trans h.drain h'.drain
  link := h'.link ∘ h.link
  queues := h'.queues ∘ h.queues
  supply := h'.supply ∘ h.supply
  up := or_chain (fun e e' => e'.trans e) h.up h'.up
  ports := h.ports.trans h'.ports

theorem Quiet.same (h : Quiet s t) : SameBut k s t where
  pending := h.pending
  clock := .inr h.clock
  fares := .inr h.fares
  platform := .inr h.platform
  stock := .inr ⟨h.blocks, h.journal, h.sequence⟩
  params := .inr h.params
  drain := .inr h.line.drain
  link := fun hl => hl.queued h.line
  queues := h.line.queues
  supply := h.supply
  up := .inr (by rw [h.line.same])
  ports := h.ports

/-- A step whose further operations are quiet. -/
theorem SameBut.quiet (h : SameBut k s t) (h' : Quiet t u) : SameBut k s u := h.trans h'.same

theorem SameBut.after (h : SameBut k t u) (h' : Quiet s t) : SameBut k s u := h'.same.trans h

/-- A change of blocks other than the line and the screen. -/
theorem SameBut.of_blocks (clock : k.clock = true ∨ t.clock = s.clock := by exact Or.inr rfl)
    (fares : k.fares = true ∨ t.fares = s.fares := by exact Or.inr rfl)
    (platform : k.platform = true ∨ t.platform = s.platform := by exact Or.inr rfl)
    (stock : k.stock = true ∨
      (t.issue.blocks = s.issue.blocks ∧ t.issue.journal = s.issue.journal ∧ t.issue.sequence = s.issue.sequence) := by
        exact Or.inr ⟨rfl, rfl, rfl⟩)
    (line : t.line = s.line := by rfl) (screen : t.screen = s.screen := by rfl) (pending : t.pending = s.pending := by rfl)
    (ports : PortsKept s t := by exact .of_same rfl rfl) : SameBut k s t :=
  ⟨pending, clock, fares, platform, stock, .inr (by rw [line]), .inr (line ▸ .refl _), line ▸ id, line ▸ id,
    fun h => h.congr screen (by rw [line]), .inr (by rw [line]), ports⟩

/-- A change of the line alone, the parameters apart. -/
theorem SameBut.of_line {l : Line} (drain : k.drain = true ∨ SameDrain s.line l)
    (link : LinkInv s.line → LinkInv l) (queues : QueueInv s.line → QueueInv l) (params : l.params = s.line.params := by rfl)
    (up : k.up = true ∨ l.up = s.line.up := by exact Or.inr rfl) : SameBut k s { s with line := l } :=
  ⟨rfl, .inr rfl, .inr rfl, .inr rfl, .inr ⟨rfl, rfl, rfl⟩, .inr params, drain, link, queues,
    fun h => h.congr rfl params, up, .of_same rfl rfl⟩

theorem SameBut.of_platform (touched : k.platform = true) (m : Platform) : SameBut k s { s with platform := m } :=
  .of_blocks (platform := .inl touched)

theorem SameBut.of_clock (touched : k.clock = true) (c : Clock) : SameBut k s { s with clock := c } :=
  .of_blocks (clock := .inl touched)

/-- A change of the screen sequencer that keeps the supply chain, and of what the signage port and the wakes hold. -/
theorem Quiet.of_screen (supply : SupplyInv s → SupplyInv t) (line : t.line = s.line := by rfl)
    (clock : t.clock = s.clock := by rfl) (fares : t.fares = s.fares := by rfl) (platform : t.platform = s.platform := by rfl)
    (issue : t.issue = s.issue := by rfl) (pending : t.pending = s.pending := by rfl)
    (ports : PortsKept s t := by exact .of_same rfl rfl) : Quiet s t :=
  ⟨pending, clock, fares, platform, by rw [issue], by rw [issue], by rw [issue], line ▸ .refl _, supply, ports⟩

/-! ## Changes of the line that several commands make -/

theorem frameDone_same (s : State) : SameBut k s (frameDone s) := by
  refine .of_line (.inr ⟨rfl, rfl, rfl, fun f hf => ⟨f, hf, rfl⟩⟩) (fun h => ?_) fun h => h.congr
  refine ⟨h.address, h.admission, ?_, h.lost, h.status, h.join, h.joinElse, h.resume, h.sends, h.urgent, h.routine, h.run,
    h.idle⟩
  dsimp only
  split
  next ha => simp [ha]
  · exact h.silence

theorem countBad_same (s : State) : SameBut k s (countBad s) :=
  .of_line (.inr ⟨rfl, rfl, rfl, fun f hf => ⟨f, hf, rfl⟩⟩)
    (fun h => ⟨h.address, h.admission, h.silence, h.lost, h.status, h.join, h.joinElse, h.resume, h.sends, h.urgent, h.routine,
      h.run, h.idle⟩)
    fun h => ⟨h.urgent, h.routine, h.oneStatus, h.owed, ⟨satSucc_le .., h.counts.2⟩⟩

theorem onMalformed_same (d : DownKind) (s : State) : SameBut k s (onMalformed d s) := by
  unfold onMalformed
  split
  · exact (offerReply_quiet _ _ _ s).same
  · exact countBad_same s

theorem enter_same (live : s.line.link ≠ .dark) {l : LinkState} (hl : l ≠ .dark) : SameBut k s (setLink l s) :=
  (SameBut.of_line (l := s.line.enter l) (.inr ⟨rfl, rfl, rfl, nofun⟩) (fun h => h.setLink live hl) (fun h => h.enter l)).quiet (latchV_quiet _ _)

/-- A message changes what its own meaning changes (R127, R135, R136). -/
theorem onMessage_same {α : Type} {d : DownKind} {read : List Byte → Option α} {carryOut : α → State → State} {addr : Byte}
    {p : List Byte} (carried : ∀ v t, d.takenIn t.line.link = true → read p = some v → SameBut k t (carryOut v t)) :
    SameBut k s (onMessage d read carryOut addr p s) := by
  rcases onMessage_cases d read carryOut addr p s with h | h | ⟨-, -, h⟩ | ⟨⟨-, ht⟩, v, hv, h⟩ <;> rw [h]
  · exact .refl s
  · exact frameDone_same s
  · exact (frameDone_same s).trans (onMalformed_same d _)
  · rw [taken, Bool.and_eq_true] at ht
    exact (frameDone_same s).trans (carried v _ ht.2 hv)

end SameBut

end Sys2Proof.Machine

/-! The commands that are not quiet, each with the parts it changes. -/

namespace Sys2Proof.Machine

-- One theorem at a time: the whole text is checked in one process.
set_option Elab.async false

section SameBut

variable {k : Touched} {s t u : State}

/-! ## The time base -/

theorem newDay_same (platform : k.platform = true) (s : State) : SameBut k s (rolloverCalls s) := by
  unfold rolloverCalls markDayCrossed
  refine ((newDay_quiet s).same).trans ?_
  split
  · exact .of_platform platform _
  · exact .refl _

theorem raiseRollover_same (clock : k.clock = true) (platform : k.platform = true) (s : State) :
    SameBut k s (raiseRollover s) :=
  (SameBut.of_clock clock _).trans (newDay_same platform _)

theorem latchTimeState_quiet (s : State) : Quiet s (latchTimeState s) := (latchV_quiet _ s).trans (latchS_quiet _ _)

theorem lock_same (clock : k.clock = true) (s : State) : SameBut k s (lock s) := by
  unfold lock
  dsimp only
  split
  · exact .of_clock clock _
  · exact (SameBut.of_clock clock _).quiet (latchTimeState_quiet _)

theorem beaconLink_same (s : State) : SameBut k s (beaconLink s) := by
  unfold beaconLink
  split
  next h => exact enter_same (by simp [h]) nofun
  next h => split <;> exact enter_same (by simp [h]) nofun
  all_goals exact .refl s

theorem banner_same (b : BranchCondition) (text : Nat) (s : State) :
    SameBut k s { s with line := { s.line with condition := b, textCode := text } } :=
  .of_line (.inr ⟨rfl, rfl, rfl, fun f hf => ⟨f, hf, rfl⟩⟩)
    (fun h => ⟨h.address, h.admission, h.silence, h.lost, h.status, h.join, h.joinElse, h.resume, h.sends, h.urgent, h.routine,
      h.run, h.idle⟩)
    fun h => h.congr

theorem storeCondition_same (b : BeaconFields) (s : State) : SameBut k s (storeCondition b s) := by
  unfold storeCondition
  split
  · exact .refl s
  · exact (banner_same _ _ s).quiet ((latchV_quiet _ _).trans ((latchS_quiet _ _).trans (rebuild_quiet _)))

theorem afterCorrection_same (clock : k.clock = true) (b : BeaconFields) (c : TimeOfDay) (stepped : Bool) (s : State) :
    SameBut k s (afterCorrection b c stepped s) := by
  have locked : SameBut k s (lock (adoptDay b c s)) := (SameBut.of_clock clock _).trans (lock_same clock _)
  unfold afterCorrection
  dsimp only
  split
  · exact locked.quiet ((evaluateAll_quiet _).trans (rebuild_quiet _))
  · split
    · exact locked.quiet (rebuild_quiet _)
    · exact locked

theorem measureBeacon_same (clock : k.clock = true) (platform : k.platform = true) (b : BeaconFields) (s : State) :
    SameBut k s (measureBeacon b s) := by
  unfold measureBeacon
  dsimp only
  split
  · exact (SameBut.of_clock clock _).quiet (statusCause_quiet _)
  · split
    · refine SameBut.trans ?_ (afterCorrection_same clock b _ true _)
      unfold stepForward
      dsimp only
      split
      · exact (SameBut.of_clock clock _).trans (raiseRollover_same clock platform _)
      · exact .of_clock clock _
    · split <;> exact (SameBut.of_clock clock _).trans (afterCorrection_same clock b _ false _)

theorem beaconTime_same (clock : k.clock = true) (platform : k.platform = true) (b : BeaconFields) (s : State) :
    SameBut k s (beaconTime b s) := by
  unfold beaconTime
  dsimp only
  refine SameBut.trans ?_ (.of_clock clock _)
  split
  · exact .refl s
  · split
    · exact ((SameBut.of_clock clock _).trans (lock_same clock _)).quiet ((recomputeAll_quiet _).trans (rebuild_quiet _))
    · exact measureBeacon_same clock platform b s

theorem takeBeacon_same (clock : k.clock = true) (platform : k.platform = true) (b : BeaconFields) (s : State) :
    SameBut k s (takeBeacon b s) :=
  ((beaconLink_same s).trans (storeCondition_same b _)).trans (beaconTime_same clock platform b _)

theorem takeSetTime_same (clock : k.clock = true) (f : Nat × BitVec 16) (s : State) : SameBut k s (takeSetTime f s) := by
  unfold takeSetTime
  split
  · exact ((SameBut.of_clock clock _).trans (lock_same clock _)).quiet
      (((mapActive_quiet _ _).trans (evaluateAll_quiet _)).trans ((rebuild_quiet _).trans (offerReply_quiet _ _ _ _)))
  · exact (offerReply_quiet _ _ _ s).same

/-- A tick counts the timers down; none starts and none ends. -/
theorem tickTimers_same (clock : k.clock = true) (platform : k.platform = true) (s : State) :
    SameBut k s (tickTimers s) where
  pending := rfl
  clock := .inl clock
  fares := .inr rfl
  platform := .inl platform
  stock := .inr ⟨rfl, rfl, rfl⟩
  params := .inr rfl
  drain := .inr ⟨rfl, rfl, countDown_isSome _, fun f hf => ⟨f, hf, rfl⟩⟩
  link h := ⟨h.address, (countDown_isSome _).trans h.admission, (countDown_isSome _).trans h.silence,
    (countDown_isSome _).trans h.lost, (countDown_isSome _).trans h.status, fun hs => (countDown_isSome _).trans (h.join hs),
    fun hs => by rw [tickTimers, tickLine, h.joinElse hs]; rfl, h.resume, h.sends, h.urgent, h.routine, h.run, h.idle⟩
  queues h := h.congr
  supply h := ⟨h.outputs, h.sigpwr, h.quiet, (countDown_isSome _).trans h.ready, h.settling,
    fun hi => h.idle ((countDown_isSome _).symm.trans hi), (countDown_isSome _).trans h.retry, h.level, h.trim, h.run,
    ⟨h.ambient.1, (Nat.sub_le ..).trans h.ambient.2⟩⟩
  up := .inr rfl
  ports := .of_same rfl rfl

theorem crystalStep_same (clock : k.clock = true) (platform : k.platform = true) (s : State) :
    SameBut k s (crystalStep s) := by
  have ticked : SameBut k s { tickTimers s with clock := tickClock (tickTimers s).clock } :=
    (tickTimers_same clock platform s).trans (.of_clock clock _)
  unfold crystalStep
  dsimp only
  split
  · exact (ticked.trans (raiseRollover_same clock platform _)).quiet (rebuild_quiet _)
  · exact ticked

/-! ## The link -/

theorem takeRestart_same (v : Unit) (s : State) : SameBut k s (takeRestart v s) := by
  unfold takeRestart
  split
  next h => exact enter_same (by simp [h]) nofun
  next h => exact enter_same (by simp [h]) nofun
  next h => exact enter_same (by simp [h]) nofun
  all_goals exact .refl s

/-- ADMIT, taken in SYNCED and ADMITTED only (R123, R127). -/
theorem takeAdmit_same (f : AdmitFields) (ht : DownKind.admission.takenIn s.line.link = true) : SameBut k s (takeAdmit f s) := by
  have fields : ∀ t : State, t.line.link ≠ .dark ∧ t.line.link ≠ .hunt →
      SameBut k t { t with line := { t.line with resume := f.resume, classMap := f.classMap } } := fun t hl =>
    .of_line (.inr ⟨rfl, rfl, rfl, fun f hf => ⟨f, hf, rfl⟩⟩)
      (fun h => ⟨h.address, h.admission, h.silence, h.lost, h.status, h.join, h.joinElse,
        fun hd => (hd.elim hl.1 hl.2).elim, h.sends, h.urgent, h.routine, h.run, h.idle⟩)
      fun h => h.congr
  unfold takeAdmit
  dsimp only
  split
  next h =>
    refine (enter_same (by simp [h]) (l := .admitted) nofun).trans (fields _ ?_)
    simp [Line.enter]
  next h =>
    refine fields s ?_
    cases hl : s.line.link <;> simp_all [DownKind.takenIn, DownKind.isBroadcast]

/-- The line after a contention loss (R116). -/
def Line.contended (l : Line) : Line := { l.dropFrame with contentions := satSucc Config.countTop l.contentions }

theorem contention_same (s : State) : SameBut k s { s with line := s.line.contended } :=
  .of_line (.inr ⟨rfl, rfl, rfl, fun f hf => by cases hf⟩)
    (fun h => ⟨h.address, h.admission, h.silence, h.lost, h.status, h.join, h.joinElse, h.resume, (fun f hf => by cases hf),
      h.urgent, h.routine, h.run, h.idle⟩)
    fun h => ⟨h.urgent, h.routine, h.oneStatus, h.dropFrame.owed, ⟨h.counts.1, satSucc_le .., h.counts.2.2⟩⟩

/-- The line after a line fault, the link apart (R117). -/
def Line.faulted (l : Line) : Line :=
  { l.dropFrame with faults := satSucc Config.countTop l.faults, faultRun := l.faultRun + 1 }

theorem QueueInv.faulted {l : Line} (h : QueueInv l) : QueueInv l.faulted :=
  ⟨h.urgent, h.routine, h.oneStatus, h.dropFrame.owed, ⟨h.counts.1, h.counts.2.1, satSucc_le .., h.counts.2.2.2⟩⟩

theorem SameDrain.faulted (l : Line) : SameDrain l l.faulted := ⟨rfl, rfl, rfl, fun f hf => by cases hf⟩

/-- The third fault of a run moves the link (R117). -/
theorem faultMoves_same (live : s.line.link ≠ .dark) {l : LinkState} (hl : l ≠ .dark) :
    SameBut k s (setLink l { s with line := s.line.faulted }) := by
  refine (SameBut.of_line (l := s.line.faulted.enter l) (.inr ?_) (fun h => ?_) (fun h => h.faulted.enter l)).quiet
    (latchV_quiet .linkState _)
  · exact (SameDrain.faulted s.line).trans ⟨rfl, rfl, rfl, fun f hf => by cases hf⟩
  · exact .enter hl (fun h0 => live (h.address.2.1 h0)) h.address.1 h.idle

theorem faultStays_same (run : LinkInv s.line → s.line.faultRun + 1 ≤ 2) : SameBut k s { s with line := s.line.faulted } :=
  .of_line (.inr (.faulted s.line))
    (fun h => ⟨h.address, h.admission, h.silence, h.lost, h.status, h.join, h.joinElse, h.resume, (fun f hf => by cases hf),
      h.urgent, h.routine, run h, h.idle⟩) QueueInv.faulted

theorem lineFault_same (hf : s.line.tx.isSome = true) : SameBut k s (faultLink { s with line := s.line.faulted }) := by
  obtain ⟨f, htx⟩ := Option.isSome_iff_exists.1 hf
  have idleLink : ∀ l : LinkState, s.line.link = l → l ≠ .synced → l ≠ .admitted → ¬ LinkInv s.line := fun l hl hs ha h => by
    rcases h.sends f htx with ⟨e, -⟩ | ⟨e, -⟩
    · exact hs (hl.symm.trans e)
    · exact ha (hl.symm.trans e)
  unfold faultLink
  split
  · split
    next hl => exact faultMoves_same (fun hd => by rw [show s.line.link = _ from hl] at hd; cases hd) nofun
    next hl => exact faultMoves_same (fun hd => by rw [show s.line.link = _ from hl] at hd; cases hd) nofun
    all_goals
      next hl => exact faultStays_same fun h => absurd h (idleLink _ hl nofun nofun)
  next hr => exact faultStays_same fun _ => by simpa [Line.faulted] using hr

theorem thresholdReturn_same (s : State) : Answers (SameBut k s) (execThresholdReturn s) := by
  refine answers_next.2 (.of_line (.inr ⟨rfl, rfl, rfl, fun f hf => ⟨f, hf, rfl⟩⟩) (fun h => ?_) fun h => h.congr)
  refine ⟨h.address, h.admission, h.silence, h.lost, h.status, h.join, h.joinElse, h.resume, h.sends, ?_, ?_, h.run, h.idle⟩
  all_goals dsimp only; split
  · exact .inl rfl
  · exact h.urgent
  · exact .inl rfl
  · exact h.routine

/-- A frame starts from a source the link state allows (R114, R122). -/
theorem nextSource_link {l : Line} {src : TxSource} (h : nextSource l = some src) :
    (l.link = .synced ∧ src = .join) ∨ (l.link = .admitted ∧ src ≠ .join) := by
  unfold nextSource at h
  split at h
  next hl =>
    split at h <;> cases h
    exact .inl ⟨hl, rfl⟩
  next hl =>
    refine .inr ⟨hl, ?_⟩
    rintro rfl
    split at h
    · split at h <;> cases h
    · split at h
      · split at h
        · cases h
        · split at h <;> cases h
        · cases h
        · cases h
      · cases h
  all_goals cases h

theorem upwardFrameStart_same (drain : k.drain = true) (up : k.up = true) (s : State) : Answers (SameBut k s) (execUpwardFrameStart s) := by
  unfold execUpwardFrameStart
  split
  next src htx hsrc =>
    refine answers_next.2 (.of_line (.inl drain) (fun h => ?_) (fun h => ?_) (up := .inl up))
    · refine ⟨h.address, h.admission, h.silence, h.lost, h.status, h.join, h.joinElse, h.resume, fun f hf => ?_, h.urgent,
        h.routine, h.run, h.idle⟩
      obtain rfl := Option.some.inj hf
      exact nextSource_link hsrc
    · refine ⟨h.urgent, h.routine, h.oneStatus, fun ho => ?_, h.counts⟩
      obtain ⟨f, hf, -⟩ := h.owed ho
      rw [htx] at hf
      cases hf
  · exact answers_next.2 (.refl s)

theorem symbolPeriodEnd_same (clock : k.clock = true) (up : k.up = true) (message echo : Symbol) (s : State) :
    Answers (SameBut k s) (execSymbolPeriodEnd message echo s) := by
  have source : (s.line.tx.map (echoFrame echo)).map TxFrame.source = s.line.tx.map TxFrame.source := by
    rw [Option.map_map]
    exact congrArg (Option.map · _) (funext (echoFrame_source echo))
  have clock' : SameBut k s
      { s with clock := if message = .space && hearsStart s then recordStart s.clock else s.clock } := .of_clock clock _
  unfold execSymbolPeriodEnd
  refine answers_next.2 (clock'.trans (.of_line (.inr ⟨rfl, rfl, rfl, fun f hf => ?_⟩) (fun h => ?_) (fun h => ?_) (up := .inl up)))
  · obtain ⟨g, hg, rfl⟩ := Option.map_eq_some_iff.1 hf
    exact ⟨g, hg, echoFrame_source echo g⟩
  · refine ⟨h.address, h.admission, h.silence, h.lost, h.status, h.join, h.joinElse, h.resume, fun f hf => ?_, h.urgent,
      h.routine, h.run, ?_⟩
    · obtain ⟨g, hg, rfl⟩ := Option.map_eq_some_iff.1 hf
      rw [echoFrame_source]
      exact h.sends g hg
    · cases echo
      · exact satSucc_le ..
      · exact Nat.zero_le _
  · exact (h.retag h.urgent h.routine h.oneStatus source).congr

end SameBut

end Sys2Proof.Machine

/-! The commands that are not quiet, continued: frames sent whole, the stock, the fares, the parameters, the monitor and the
full reset. -/

namespace Sys2Proof.Machine

-- One theorem at a time: the whole text is checked in one process.
set_option Elab.async false

section SameBut

variable {k : Touched} {s t u : State}

/-! ## A frame sent whole (R118) -/

/-- What a STATUS does at its completion keeps the queues, the mark of a STATUS owed apart (R148). -/
theorem QueueInv.statusSent {l : Line} (f : TxFrame) (h : QueueInv { l with statusOwed := false }) :
    QueueInv (l.statusSent f) := by
  have cleared : ∀ reused : Bool, QueueInv { l with tableReused := reused, statusOwed := false } := fun reused => h.congr
  unfold Line.statusSent
  dsimp only
  generalize (if (f.reused && !f.rearmed) = true then false else l.tableReused) = reused
  split
  next hq =>
    rw [Bool.and_eq_true, Bool.not_eq_true'] at hq
    exact (cleared reused).enqueue _ fun _ => hq.2
  · exact cleared reused

theorem QueueInv.notOwed {l : Line} (h : QueueInv l) : QueueInv { l with statusOwed := false } :=
  ⟨h.urgent, h.routine, h.oneStatus, nofun, h.counts⟩

theorem statusSent_queued (f : TxFrame) (l : Line) : l.Queued (l.statusSent f) := by
  have same : l.statusSent f = { l with
      urgent := (l.statusSent f).urgent, routine := (l.statusSent f).routine, tx := (l.statusSent f).tx,
      tableReused := (l.statusSent f).tableReused, statusOwed := (l.statusSent f).statusOwed,
      discards := (l.statusSent f).discards } ∧ (l.statusSent f).tx = l.tx := by
    unfold Line.statusSent
    dsimp only
    generalize (if (f.reused && !f.rearmed) = true then false else l.tableReused) = reused
    split
    · exact ⟨rfl, rfl⟩
    · exact ⟨rfl, rfl⟩
  exact ⟨same.1, by rw [same.2], fun h => .statusSent f h.notOwed⟩

theorem itemSent_quiet (f : TxFrame) (i : Item) (s : State) : Quiet s (itemSent f i s) := by
  unfold itemSent
  split
  · split
    · exact (mapCall_quiet s _ _).trans (rebuild_quiet _)
    · exact .refl s
  · exact .of_line (statusSent_queued f s.line)
  all_goals exact .refl s

theorem tail_queued (l : Line) : l.Queued { l with urgent := l.urgent.tail } :=
  ⟨rfl, rfl, fun h => h.retag ((List.tail_sublist _).length_le.trans h.urgent) h.routine
    ((length_filter_append_le (List.tail_sublist _)).trans h.oneStatus) rfl⟩

theorem routineTail_queued (l : Line) : l.Queued { l with routine := l.routine.tail } :=
  ⟨rfl, rfl, fun h => h.retag h.urgent ((List.tail_sublist _).length_le.trans h.routine)
    ((((List.Sublist.refl l.urgent).append (List.tail_sublist _)).filter _).length_le.trans h.oneStatus) rfl⟩

theorem turn_same (turn : Turn) (s : State) : SameBut k s { s with line := { s.line with turn := turn } } :=
  .of_line (.inr ⟨rfl, rfl, rfl, fun f hf => ⟨f, hf, rfl⟩⟩)
    (fun h => ⟨h.address, h.admission, h.silence, h.lost, h.status, h.join, h.joinElse, h.resume, h.sends, h.urgent, h.routine,
      h.run, h.idle⟩)
    fun h => h.congr

theorem saleSent_same (drain : k.drain = true) (n : Nat) (s : State) : SameBut k s (saleSent n s) :=
  .of_line (.inl drain)
    (fun h => ⟨h.address, h.admission, h.silence, h.lost, h.status, h.join, h.joinElse, h.resume, h.sends, h.urgent, h.routine,
      h.run, h.idle⟩)
    fun h => h.congr

/-- A JOIN sent whole, its frame no longer on the line (R122). -/
theorem joinSent_same (synced : LinkInv s.line → s.line.link = .synced) :
    SameBut k s { s with line := { s.line with joinPending := false, joinTimer := some Config.joinInterval } } :=
  .of_line (.inr ⟨rfl, rfl, rfl, fun f hf => ⟨f, hf, rfl⟩⟩)
    (fun h => ⟨h.address, h.admission, h.silence, h.lost, h.status, fun _ => rfl, fun hn => absurd (synced h) hn, h.resume,
      h.sends, h.urgent, h.routine, h.run, h.idle⟩)
    fun h => h.congr

theorem sourceSent_same {f : TxFrame} (drain : ∀ n, f.source = .sale n → k.drain = true)
    (synced : f.source = .join → LinkInv s.line → s.line.link = .synced) : SameBut k s (sourceSent f s) := by
  unfold sourceSent
  split
  next hs => exact joinSent_same (synced hs)
  next i _ =>
    split
    · have tail : Quiet s { s with line := { s.line with urgent := s.line.urgent.tail } } := .of_line (tail_queued s.line)
      exact (tail.trans ((itemSent_quiet f i _).trans (offerStops_quiet _))).same
    · exact (itemSent_quiet f i s).same
  next i _ =>
    refine (turn_same .journal s).quiet ?_
    dsimp only
    split
    · exact (Quiet.of_line (routineTail_queued _) : Quiet _ _).trans (itemSent_quiet f i _)
    · exact itemSent_quiet f i _
  next n hn => exact saleSent_same (drain n hn) n s

theorem TxFrame.carriesStatus_iff (f : TxFrame) :
    f.carriesStatus = true ↔ f.source = .urgentItem .status ∨ f.source = .routineItem .status := by
  unfold TxFrame.carriesStatus
  split <;> simp_all

/-- The queues after a STATUS sent whole, which settles the mark of a STATUS owed (R148). -/
theorem statusFrameSent_queues {f : TxFrame} (h : QueueInv { s.line with statusOwed := false })
    (hc : f.carriesStatus = true) : QueueInv (sourceSent f s).line := by
  rcases f.carriesStatus_iff.1 hc with hs | hs <;> unfold sourceSent <;> rw [hs] <;> dsimp only
  · split
    · exact (Line.Queued.offerAll _ _).queues (.statusSent f ((tail_queued _).queues h))
    · exact .statusSent f h
  · have turned : QueueInv { s.line with turn := .journal, statusOwed := false } := h.congr
    split
    · exact .statusSent f ((routineTail_queued _).queues turned)
    · exact .statusSent f turned

/-- The queues after a frame sent whole, its source acted on (R118). -/
theorem sourceSent_queues {f : TxFrame} (h : QueueInv { s.line with statusOwed := false })
    (owed : f.carriesStatus = false → s.line.statusOwed = false) : QueueInv (sourceSent f s).line := by
  cases hc : f.carriesStatus with
  | true => exact statusFrameSent_queues h hc
  | false =>
    have hq : QueueInv s.line := h.congr (owed := owed hc)
    by_cases hj : f.source = .join
    · unfold sourceSent
      rw [hj]
      exact hq.congr
    · exact (sourceSent_same (k := { drain := true }) (fun _ _ => rfl) fun hs => absurd hs hj).queues hq

theorem raiseThreshold_link (h : LinkInv s.line) (src : TxSource) : LinkInv (raiseThreshold src s).line := by
  refine ⟨h.address, h.admission, h.silence, h.lost, h.status, h.join, h.joinElse, h.resume, (fun f hf => by cases hf),
    ?_, ?_, Nat.zero_le _, h.idle⟩ <;> unfold raiseThreshold <;> dsimp only <;> split
  · exact .inr rfl
  · exact h.urgent
  · exact h.routine
  · exact .inr rfl

theorem raiseThreshold_queues (h : QueueInv s.line) (src : TxSource) :
    QueueInv { (raiseThreshold src s).line with statusOwed := false } :=
  ⟨h.urgent, h.routine, h.oneStatus, nofun, h.counts⟩

theorem frameSent_same (drain : k.drain = true) {f : TxFrame} (htx : s.line.tx = some f) :
    SameBut k s (sourceSent f (raiseThreshold f.source s)) := by
  have owed : QueueInv s.line → f.carriesStatus = false → s.line.statusOwed = false := fun h hc => by
    rw [← Bool.not_eq_true]
    intro ho
    obtain ⟨g, hg, hgs⟩ := h.owed ho
    rw [htx] at hg
    cases hg
    exact absurd hgs (by simp [hc])
  have queues : QueueInv s.line → QueueInv (sourceSent f (raiseThreshold f.source s)).line := fun h =>
    sourceSent_queues (raiseThreshold_queues h _) (owed h)
  by_cases hj : f.source = .join
  · have sent : sourceSent f (raiseThreshold f.source s) = { s with line := { (raiseThreshold f.source s).line with
        joinPending := false, joinTimer := some Config.joinInterval } } := by
      rw [sourceSent, hj]
      rfl
    rw [sent] at queues ⊢
    refine .of_line (.inl drain) (fun h => ?_) queues
    have hr := raiseThreshold_link h f.source
    have synced : s.line.link = .synced := (h.sends f htx).elim And.left fun ⟨_, hn⟩ => absurd hj hn
    exact ⟨hr.address, hr.admission, hr.silence, hr.lost, hr.status, fun _ => rfl, fun hn => absurd synced hn, hr.resume,
      hr.sends, hr.urgent, hr.routine, hr.run, hr.idle⟩
  · have rest := sourceSent_same (k := k) (s := raiseThreshold f.source s) (fun _ _ => drain) fun hs => absurd hs hj
    exact ⟨rest.pending, rest.clock, rest.fares, rest.platform, rest.stock, rest.params, .inl drain,
      fun h => rest.link (raiseThreshold_link h _), queues, fun h => rest.supply (h.congr rfl rfl),
      rest.up, rest.ports⟩

theorem frameComplete_same (drain : k.drain = true) (s : State) : Answers (SameBut k s) (execFrameComplete s) := by
  unfold execFrameComplete
  split
  next f htx => exact answers_guard (fun _ => frameSent_same drain htx) (.refl s)
  · exact answers_next.2 (.refl s)

/-! ## The stock, the fares and the parameters -/

/-- A change of the stock and the journal, with the cursor and the acknowledgement timer of the drain. -/
theorem SameBut.of_stock (stock : k.stock = true) (drain : k.drain = true) (i : Issue) (cursor : Option Nat) (timer : Timer) :
    SameBut k s { s with issue := i, line := { s.line with cursor := cursor, saleAckTimer := timer } } where
  pending := rfl
  clock := .inr rfl
  fares := .inr rfl
  platform := .inr rfl
  stock := .inl stock
  params := .inr rfl
  drain := .inl drain
  link h := ⟨h.address, h.admission, h.silence, h.lost, h.status, h.join, h.joinElse, h.resume, h.sends, h.urgent, h.routine,
    h.run, h.idle⟩
  queues h := h.congr
  supply h := h.congr rfl rfl
  up := .inr rfl
  ports := .of_same rfl rfl

theorem takeSaleAck_same (stock : k.stock = true) (drain : k.drain = true) (n : Nat) (s : State) :
    SameBut k s (takeSaleAck n s) := by
  unfold takeSaleAck
  split
  · exact .refl s
  · split
    · exact .refl s
    · exact .of_stock stock drain _ _ _

theorem takeGrant_same (stock : k.stock = true) (f : Nat × Nat) (s : State) : SameBut k s (takeGrant f s) := by
  refine SameBut.quiet ?_ (offerReply_quiet _ _ _ _)
  split
  · exact .of_blocks (stock := .inl stock)
  · exact .refl s

theorem appendTicket_same (stock : k.stock = true) (drain : k.drain = true) (x : Ticket) (s : State) :
    SameBut k s (appendTicket x s) :=
  .of_stock stock drain _ _ s.line.saleAckTimer

theorem reportCommit_quiet (n : Option Nat) (s : State) : Quiet s (reportCommit n s) := by
  unfold reportCommit
  split
  · exact .refl s
  · exact (mapCall_quiet s _ _).trans (wantStop_quiet _ _ _)

theorem nearFullTest_quiet (s : State) : Quiet s (nearFullTest s) := by
  unfold nearFullTest
  split
  · exact latchV_quiet _ s
  · exact .refl s

/-- What a COMMIT does once its record stands in the journal (R86, R96, R99, R102). -/
theorem commitSale_quiet (x : Sale) (t : Ticket) (s : State) : Quiet (appendTicket t s) (commitSale x t s) := by
  refine (reportCommit_quiet x.call _).trans ?_
  unfold commitSale
  dsimp only
  generalize (decide (Config.lowWater ≤ remaining s.issue.blocks) && _) = crossed
  generalize reportCommit x.call (appendTicket t s) = v
  have tested : Quiet v (grantAsked (nearFullTest (lowWater crossed { v with issue := { v.issue with sale := none } }))) :=
    (issue_quiet v _).trans ((lowWater_quiet _ _).trans ((nearFullTest_quiet _).trans (grantAsked_quiet _)))
  split
  · exact tested.trans (rebuild_quiet _)
  · exact tested.trans (evalDemand_quiet _)

theorem commitSale_same (stock : k.stock = true) (drain : k.drain = true) (x : Sale) (t : Ticket) (s : State) :
    SameBut k s (commitSale x t s) :=
  (appendTicket_same stock drain t s).quiet (commitSale_quiet x t s)

theorem carryCommit_same (stock : k.stock = true) (drain : k.drain = true) (port : Port) (n : Nat) (s : State) :
    SameBut k s (carryCommit port n s) := by
  unfold carryCommit
  split
  · exact (commitSale_same stock drain _ _ s).quiet (answer_quiet _ _ _)
  · exact (refuse_quiet _ _ s).same
  · exact (refuse_quiet _ _ s).same

theorem takeFareDest_same (fares : k.fares = true) (f : Nat × Nat) (s : State) : SameBut k s (takeFareDest f s) := by
  refine SameBut.quiet ?_ (offerReply_quiet _ _ _ _)
  split
  · exact .of_blocks (fares := .inl fares)
  · exact .refl s

theorem takeFarePrice_same (fares : k.fares = true) (b : PriceBlock) (s : State) : SameBut k s (takeFarePrice b s) := by
  unfold takeFarePrice
  split
  · exact (SameBut.of_blocks (fares := .inl fares)).quiet (offerReply_quiet _ _ _ _)
  · exact (offerReply_quiet _ _ _ s).same

theorem takeConcession_same (fares : k.fares = true) (f : ConcessionFields) (s : State) :
    SameBut k s (takeConcession f s) := by
  unfold takeConcession
  split
  · exact (offerReply_quiet _ _ _ s).same
  · split
    · exact (offerReply_quiet _ _ _ s).same
    · exact (SameBut.of_blocks (fares := .inl fares)).quiet (offerReply_quiet _ _ _ _)

/-- The level recomputed makes the level sound, whatever it was (R182). -/
theorem SupplyInv.relevel (h : SupplyInv s) (screen : t.screen = s.screen) : SupplyInv (relevel t) := by
  constructor <;> unfold Machine.relevel <;> dsimp only <;> rw [screen]
  exacts [h.outputs, h.sigpwr, h.quiet, h.ready, h.settling, h.idle, h.retry, h.trim, h.run, h.ambient]

theorem takeParams_same (params : k.params = true) (p : Params) (s : State) : SameBut k s (takeParams p s) := by
  refine SameBut.quiet ?_ ((rebuild_quiet _).trans (offerReply_quiet _ _ _ _))
  have q := recomputeAll_quiet { s with line := { s.line with params := p } }
  have link : LinkInv s.line → LinkInv { s.line with params := p } := fun h =>
    ⟨h.address, h.admission, h.silence, h.lost, h.status, h.join, h.joinElse, h.resume, h.sends, h.urgent, h.routine, h.run,
      h.idle⟩
  have r := q.same (k := k)
  exact ⟨r.pending, r.clock, r.fares, r.platform, r.stock, .inl params,
    r.drain.imp_right fun d => ⟨d.cursor, d.highest, d.timer, d.frame⟩, fun h => r.link (link h),
    fun h => r.queues h.congr, fun h => h.relevel (recomputeAll_screen _), r.up, r.ports⟩

end SameBut

end Sys2Proof.Machine

/-! The commands that are not quiet, continued: the monitor, the sequencer and the full reset; and the table of every command. -/

namespace Sys2Proof.Machine

-- One theorem at a time: the whole text is checked in one process.
set_option Elab.async false

section SameBut

variable {k : Touched} {s t u : State}

/-! ## The platform monitor -/

theorem decideStop_same (platform : k.platform = true) (s : State) : SameBut k s (decideStop s) := by
  have stopped : SameBut k s { s with platform := { s.platform with state := .stopped } } := .of_platform platform _
  unfold decideStop
  dsimp only
  split
  · exact ((stopped.quiet (mapCall_quiet _ _ _)).trans (.of_platform platform _)).quiet (offerObservation_quiet _ _ _ _)
  · exact (stopped.trans (.of_platform platform _)).quiet (offerObservation_quiet _ _ _ _)

theorem decidePass_same (platform : k.platform = true) (s : State) : SameBut k s (decidePass s) := by
  have ended : SameBut k s { s with platform := occupancyOver s.platform } := .of_platform platform _
  unfold decidePass
  dsimp only
  split
  · exact (ended.quiet (mapCall_quiet _ _ _)).quiet ((leaveSaleable_quiet _ _).trans (offerObservation_quiet _ _ _ _))
  · exact ended.quiet (offerObservation_quiet _ _ _ _)

theorem decideDeparture_same (platform : k.platform = true) (s : State) : SameBut k s (decideDeparture s) := by
  have ended : SameBut k s { s with platform := occupancyOver s.platform } := .of_platform platform _
  unfold decideDeparture
  dsimp only
  split
  · split
    · exact ended.quiet (reportDeparture_quiet _ _ _)
    · exact ended.quiet (offerObservation_quiet _ _ _ _)
  · exact ended

theorem endBlind_same (platform : k.platform = true) (s : State) : SameBut k s (endBlind s) := by
  have ended : SameBut k s { s with platform := { occupancyOver s.platform with heldOver := none } } := .of_platform platform _
  unfold endBlind
  dsimp only
  split
  · exact ended.quiet ((reportDeparture_quiet _ _ _).trans (rebuild_quiet _))
  · exact ended

theorem occAsserted_same (platform : k.platform = true) (s : State) : Answers (SameBut k s) (execOccAsserted s) := by
  have ht : SameBut k s { s with platform := { s.platform with occ := true } } := .of_platform platform _
  unfold execOccAsserted
  dsimp only
  split
  · exact answers_next.2 (ht.trans (.of_platform platform _))
  · exact answers_next.2 ht
  · exact answers_ite (fun _ => answers_next.2 ht) fun _ => answers_guard
      (fun _ => (ht.trans ((SameBut.of_platform platform _).trans (decideStop_same platform _))).quiet (rebuild_quiet _))
      (ht.trans (.of_platform platform _))
  all_goals exact answers_guard (fun _ => ht) (ht.trans (.of_platform platform _))

theorem occReleased_same (platform : k.platform = true) (s : State) : Answers (SameBut k s) (execOccReleased s) := by
  have ht : SameBut k s { s with platform := { s.platform with occ := false } } := .of_platform platform _
  unfold execOccReleased
  dsimp only
  split
  · exact answers_next.2 ht
  · exact answers_next.2 (ht.trans (.of_platform platform _))
  all_goals exact answers_guard (fun _ => ht) (ht.trans (.of_platform platform _))

theorem releaseTimerExpiry_same (platform : k.platform = true) (s : State) :
    Answers (SameBut k s) (execReleaseTimerExpiry s) := by
  refine answers_ite (fun _ => ?_) fun _ => answers_next.2 (.refl s)
  split
  · exact answers_next.2 ((decidePass_same platform s).quiet (rebuild_quiet _))
  · exact answers_next.2 ((decideDeparture_same platform s).quiet (rebuild_quiet _))
  · exact answers_next.2 (endBlind_same platform s)
  all_goals exact answers_next.2 (.refl s)

theorem buttonPress_same (platform : k.platform = true) (s : State) : Answers (SameBut k s) (execButtonPress s) := by
  refine answers_ite (fun _ => ?_) fun _ => answers_next.2 (.refl s)
  have ht : SameBut k s (latchS .stopButton { s with platform := { s.platform with
      lastPress := some s.clock.crystal, buttonDemand := some Config.demandTime } }) :=
    (SameBut.of_platform platform _).quiet (latchS_quiet _ _)
  dsimp only
  split
  · exact answers_guard (fun _ => ht.quiet ((wantStop_quiet _ _ _).trans (rebuild_quiet _))) (ht.quiet (evalDemand_quiet _))
  · exact answers_next.2 (ht.quiet (evalDemand_quiet _))

/-! ## The screen sequencer -/

theorem readScreen_trim {p : List Byte} {f : ScreenFields} (h : readScreen p = some f) : ∀ v ∈ f.trim, -16 ≤ v ∧ v ≤ 15 := by
  unfold readScreen at h
  split at h
  · obtain ⟨m, -, rfl⟩ := Option.map_eq_some_iff.1 h
    intro v hv
    obtain ⟨x, -, rfl⟩ := Option.map_eq_some_iff.1 hv
    exact clampInt_range _ (by omega)
  · cases h

theorem carryScreen_quiet (port : Port) {f : ScreenFields} (hf : ∀ v ∈ f.trim, -16 ≤ v ∧ v ≤ 15) (s : State) :
    Quiet s (carryScreen port f s) := by
  have trim : Quiet s (setTrim f.trim s) := by
    unfold setTrim
    split
    next v hv =>
      exact .of_screen fun h => ⟨h.outputs, h.sigpwr, h.quiet, h.ready, h.settling, h.idle, h.retry, rfl, hf v hv, h.run,
        h.ambient⟩
    next => exact .refl s
  refine trim.trans (Quiet.trans ?_ (answer_quiet port _ _))
  unfold setMode
  split
  · refine Quiet.trans (.of_screen fun h => ?_) (evalDemand_quiet _)
    exact ⟨h.outputs, h.sigpwr, h.quiet, h.ready, h.settling, h.idle, h.retry, h.level, h.trim, h.run, h.ambient⟩
  · exact .refl _

theorem carryReady_quiet (port : Port) (v : Unit) (s : State) : Quiet s (carryReady port v s) := by
  refine Quiet.trans ?_ (answer_quiet port _ _)
  split
  next hp =>
    refine .of_screen fun h => ?_
    have outputs := h.outputs
    have retry := h.retry
    have level := h.level
    have power := h.sigpwr (by simp [hp])
    rw [hp] at outputs retry level power
    simp only [outputsOf, Prod.mk.injEq] at outputs
    obtain ⟨-, bias, drive⟩ := outputs
    exact ⟨by simp [outputsOf, bias, drive], fun _ => power, h.quiet, rfl, rfl,
      fun hi => absurd (h.idle hi) (by simp [hp]), retry, level, h.trim, h.run, h.ambient⟩
  · exact .refl s

/-- A port that loses its power takes no transaction, and keeps no octets (R198). -/
theorem sigpwrOff_ports (vending : t.vport = s.vport) (signage : t.sport = (sigpwrOff s).sport) : PortsKept s t :=
  .of_ports (vending ▸ id) fun h => signage ▸ ⟨h.notices, h.mask, .inl rfl, rfl⟩

theorem carryQuiet_quiet (port : Port) (v : Unit) (s : State) : Quiet s (carryQuiet port v s) := by
  unfold carryQuiet
  split
  · exact refuse_quiet port _ s
  next hd =>
    split
    · exact refuse_quiet port _ s
    · refine Quiet.trans (t := { sigpwrOff s with screen := { (sigpwrOff s).screen with quiet := true } })
        (.of_screen (fun h => ?_) (ports := sigpwrOff_ports rfl rfl)) (answer_quiet port _ _)
      have dark : s.screen.supply = .dark := by simpa using hd
      exact ⟨h.outputs, fun hn => absurd dark hn, fun _ => rfl, h.ready, h.settling, h.idle, h.retry, h.level, h.trim, h.run,
        h.ambient⟩

theorem readyTimeout_quiet (hp : s.screen.supply = .powering) : Quiet s (statusCause { sigpwrOff s with
    screen := { (sigpwrOff s).screen with supply := .fault, readyTimer := none, retryTimer := some Config.faultRetry } }) := by
  refine Quiet.trans (t := { sigpwrOff s with screen := { (sigpwrOff s).screen with
      supply := .fault, readyTimer := none, retryTimer := some Config.faultRetry } }) (.of_screen (fun h => ?_) (ports := sigpwrOff_ports rfl rfl)) (statusCause_quiet _)
  have outputs := h.outputs
  have settling := h.settling
  have level := h.level
  rw [hp] at outputs settling level
  exact ⟨outputs, fun _ => rfl, fun _ => rfl, rfl, settling, fun hi => absurd (h.idle hi) (by simp [hp]), rfl, level, h.trim,
    h.run, h.ambient⟩

theorem settlingExpiry_quiet (s : State) : Answers (Quiet s) (execSettlingExpiry s) := by
  refine answers_ite (fun _ => answers_next.2 (.refl s)) fun _ => ?_
  split
  next hp =>
    refine answers_next.2 (.of_screen fun h => ?_)
    have outputs := h.outputs
    have retry := h.retry
    have ready := h.ready
    have level := h.level
    have power := h.sigpwr (by simp [hp])
    rw [hp] at outputs retry ready level power
    simp only [outputsOf, Prod.mk.injEq] at outputs
    obtain ⟨lamp, -, drive⟩ := outputs
    exact ⟨by simp [outputsOf, lamp, drive], fun _ => power, h.quiet, ready, rfl,
      fun hi => absurd (h.idle hi) (by simp [hp]), retry, level, h.trim, h.run, h.ambient⟩
  next hp =>
    refine answers_next.2 (Quiet.trans (.of_screen fun h => ?_) ((latchS_quiet .screenState _).trans (evalDemand_quiet _)))
    have outputs := h.outputs
    have retry := h.retry
    have ready := h.ready
    have power := h.sigpwr (by simp [hp])
    rw [hp] at outputs retry ready power
    simp only [outputsOf, Prod.mk.injEq] at outputs
    obtain ⟨lamp, bias, -⟩ := outputs
    exact ⟨by simp [outputsOf, lamp, bias, relevel], fun _ => power, h.quiet, ready, rfl, fun _ => rfl, retry, rfl, h.trim,
      h.run, h.ambient⟩
  all_goals exact answers_next.2 (.refl s)

theorem idleDelayExpiry_quiet (hp : s.screen.supply = .lit) : Quiet s { s with screen := { s.screen with
    supply := .dark, drive := false, bias := false, lamp := false, idleTimer := none, level := 0 } } := by
  refine .of_screen fun h => ?_
  have settling := h.settling
  have retry := h.retry
  have ready := h.ready
  rw [hp] at settling retry ready
  exact ⟨rfl, fun hn => absurd rfl hn, h.quiet, ready, settling, nofun, retry, rfl, h.trim, h.run, h.ambient⟩

theorem faultRetryExpiry_quiet (hp : s.screen.supply = .fault) :
    Quiet s { s with screen := { s.screen with supply := .dark, retryTimer := none } } := by
  refine .of_screen fun h => ?_
  have outputs := h.outputs
  have settling := h.settling
  have ready := h.ready
  have level := h.level
  rw [hp] at outputs settling ready level
  exact ⟨outputs, fun hn => absurd rfl hn, h.quiet, ready, settling, fun hi => absurd (h.idle hi) (by simp [hp]), rfl, level,
    h.trim, h.run, h.ambient⟩

/-- A window's band is adopted after three windows running; the candidate is never the current band (R181). -/
theorem adoptBand_run (w : Nat) {c : Screen} (h : ∀ x ∈ c.candidate, x.1 ≠ c.band ∧ 1 ≤ x.2 ∧ x.2 ≤ 2) :
    ∀ x ∈ (adoptBand w c).candidate, x.1 ≠ (adoptBand w c).band ∧ 1 ≤ x.2 ∧ x.2 ≤ 2 := by
  unfold adoptBand
  split
  · exact nofun
  next hw =>
    split
    next b run hc =>
      have hb := h (b, run) hc
      split
      · split
        · rintro _ ⟨⟩
          exact ⟨hb.1, by omega, by omega⟩
        · exact nofun
      · rintro _ ⟨⟩
        exact ⟨hw, by omega, by omega⟩
    next =>
      rintro _ ⟨⟩
      exact ⟨hw, by omega, by omega⟩

theorem adoptBand_else (w : Nat) (c : Screen) :
    adoptBand w c = { c with band := (adoptBand w c).band, candidate := (adoptBand w c).candidate } := by
  unfold adoptBand
  split
  · rfl
  · split
    · split
      · split <;> rfl
      · rfl
    · rfl

theorem ambientWindowEnd_quiet (s : State) : Quiet s (relevel { s with screen := endWindow s.line.params s.screen }) := by
  refine .of_screen fun h => ?_
  have run := adoptBand_run (windowBand s.line.params s.screen.ambient)
    (c := { s.screen with ambient := 0, window := Config.ambientWindow }) h.run
  unfold relevel endWindow
  dsimp only
  rw [adoptBand_else]
  generalize adoptBand _ _ = c at run ⊢
  exact ⟨h.outputs, h.sigpwr, h.quiet, h.ready, h.settling, h.idle, h.retry, rfl, h.trim, run, ⟨Nat.zero_le _, Nat.le_refl _⟩⟩

end SameBut

end Sys2Proof.Machine

/-! The table of what every command may change, and that every command keeps to it. -/

namespace Sys2Proof.Machine

-- One theorem at a time: the whole text is checked in one process.
set_option Elab.async false

section SameBut

variable {k : Touched} {s t u : State}

/-! ## The full reset -/

theorem Line.reset_link : LinkInv Line.reset :=
  ⟨by decide, rfl, rfl, rfl, rfl, nofun, fun _ => rfl, fun _ => rfl, nofun, .inl rfl, .inl rfl, by decide, by decide⟩

theorem Line.reset_queues : QueueInv Line.reset := ⟨by decide, by decide, by decide, nofun, by decide⟩

theorem SupplyInv.of_reset (h : s.screen = Screen.reset) : SupplyInv s := by
  constructor <;> rw [h]
  case level => rfl
  all_goals decide

/-- A full reset may change every part. -/
def everyPart : Touched :=
  { clock := true, fares := true, platform := true, stock := true, params := true, drain := true, up := true }

theorem SameBut.of_reset (line : LinkInv t.line ∧ QueueInv t.line) (screen : t.screen = Screen.reset)
    (ports : PortsKept s t) (pending : t.pending = s.pending := by rfl) : SameBut everyPart s t :=
  ⟨pending, .inl rfl, .inl rfl, .inl rfl, .inl rfl, .inl rfl, .inl rfl, fun _ => line.1, fun _ => line.2,
    fun _ => .of_reset screen, .inl rfl, ports⟩

/-- A full reset resets both ports (R186). -/
theorem fullReset_ports {v g : Bool} (vending : t.vport = s.vport.fullReset v) (signage : t.sport = s.sport.fullReset g) :
    PortsKept s t :=
  .of_ports (fun _ => vending ▸ (PortInv.afterReset s.vport v).congr) fun _ => signage ▸ (PortInv.afterReset s.sport g).congr

theorem coldStart_same (pins : ResetPins) (s : State) : SameBut everyPart s (coldStart pins s) :=
  .of_reset ⟨Line.reset_link, Line.reset_queues⟩ rfl (fullReset_ports rfl rfl)

theorem warmStart_same (pins : ResetPins) (s : State) : SameBut everyPart s (warmStart pins s) := by
  refine .of_reset ⟨?_, Line.reset_queues.congr⟩ rfl (fullReset_ports rfl rfl)
  have h := Line.reset_link
  exact ⟨h.address, h.admission, h.silence, h.lost, h.status, h.join, h.joinElse, h.resume, h.sends, h.urgent, h.routine,
    h.run, h.idle⟩

/-- The warm-start actions change of the line its queues alone. -/
theorem warmActions_same (clock : k.clock = true) (platform : k.platform = true) (s : State) :
    SameBut k s (warmActions s) ∧ (warmActions s).line.link = s.line.link := by
  have link : ∀ {a b : State}, Quiet a b → b.line.link = a.line.link := fun q => by rw [q.line.same]
  have owed : SameBut k s (owedRollover s) ∧ (owedRollover s).line.link = s.line.link := by
    unfold owedRollover
    split
    · refine ⟨(SameBut.of_clock clock _).trans (newDay_same platform _), ?_⟩
      unfold rolloverCalls
      rw [markDayCrossed_line]
      have day := link (newDay_quiet { s with clock := { s.clock with owed := false } })
      exact day
    · exact ⟨.refl s, rfl⟩
  have calls : Quiet (owedRollover s) (warmCalls (owedRollover s)) :=
    (mapActive_quiet _ _).trans ((recomputeAll_quiet _).trans (offerStops_quiet _))
  have both : SameBut k s (warmCalls (owedRollover s)) ∧ (warmCalls (owedRollover s)).line.link = s.line.link :=
    ⟨owed.1.quiet calls, (link calls).trans owed.2⟩
  unfold warmActions heldOverDeparture
  split
  · refine ⟨both.1.trans ((SameBut.of_platform platform _).quiet (reportDeparture_quiet _ _ _)), ?_⟩
    exact (link (reportDeparture_quiet _ _ _)).trans both.2
  · exact both

theorem board_quiet (s : State) (b : BoardBuilder) : Quiet s { s with board := b } := .of_same

/-- What every full reset ends with, the link being DARK (R120). -/
theorem endReset_same (straps : BitVec 4) (dark : s.line.link = .dark) : SameBut k s (endReset straps s) := by
  have stocked := lowWater_quiet false s
  have link : (lowWater false s).line.link = .dark := (by rw [stocked.line.same] : _ = s.line.link).trans dark
  refine (stocked.same.trans ?_).quiet ((board_quiet _ _).trans (evalDemandAt_quiet _ _))
  generalize lowWater false s = u at link
  unfold readStraps
  split
  · exact .refl u
  next hs =>
    have low : straps.toNat ≠ 0 := fun h => hs (BitVec.eq_of_toNat_eq h)
    have high : straps.toNat ≤ 15 := Nat.le_of_lt_succ straps.isLt
    refine .of_line (.inr ⟨rfl, rfl, rfl, fun f hf => ⟨f, hf, rfl⟩⟩) (fun h => ?_) fun h => h.congr
    have admission := h.admission
    have silence := h.silence
    have lost := h.lost
    have status := h.status
    rw [link] at admission silence lost status
    refine ⟨⟨high, fun h0 => absurd h0 low, nofun⟩, admission, silence, lost, status, nofun, fun _ => h.joinElse ?_,
      fun _ => h.resume (.inl link), fun f hf => ?_, h.urgent, h.routine, h.run, h.idle⟩
    · simp [link]
    · rcases h.sends f hf with ⟨e, -⟩ | ⟨e, -⟩ <;> rw [link] at e <;> cases e

theorem fullReset_same (pins : ResetPins) (s : State) : Answers (SameBut everyPart s) (execFullReset pins s) := by
  refine answers_ite (fun _ => answers_next.2 ?_) fun _ => answers_next.2 ?_
  · exact (coldStart_same pins s).trans (endReset_same _ rfl)
  · have warm := warmActions_same (k := everyPart) rfl rfl (warmStart pins s)
    exact ((warmStart_same pins s).trans warm.1).trans (endReset_same _ warm.2)

/-! ## The table -/

/-- The parts that a command may change, besides the calls, the board, the sale and the hold, the ports, and of the line its
queues and the state of its link. -/
def touched : Instr → Touched
  | .fullReset _ => everyPart
  | .vbakLow | .downwardFrameStart | .setTime _ _ | .holdoverExpiry => { clock := true }
  | .symbolPeriodEnd _ _ => { clock := true, up := true }
  | .crystalTick | .rollover | .beacon _ _ => { clock := true, platform := true }
  | .occAsserted | .occReleased | .buttonPress | .buttonDemandExpiry | .settleExpiry | .stopThresholdExpiry
  | .releaseTimerExpiry | .standingExpiry => { platform := true }
  | .commit _ _ | .saleAck _ _ => { stock := true, drain := true }
  | .serialGrant _ _ => { stock := true }
  | .loadFareDest _ _ | .loadFarePrice _ _ | .loadConcession _ _ => { fares := true }
  | .loadParams _ _ => { params := true }
  | .upwardFrameStart => { drain := true, up := true }
  | .frameComplete | .ackTimerExpiry => { drain := true }
  | _ => {}

theorem answers_message {α : Type} {d : DownKind} {read : List Byte → Option α} {carryOut : α → State → State} {addr : Byte}
    {p : List Byte} (carried : ∀ v t, d.takenIn t.line.link = true → read p = some v → SameBut k t (carryOut v t)) :
    Answers (SameBut k s) (.next (onMessage d read carryOut addr p s)) :=
  answers_next.2 (onMessage_same carried)

theorem answers_request {α : Type} {cmd : Command} {read : List Byte → Option α} {carryOut : α → State → State}
    {port : Port} {req : Request} (carried : ∀ v t, SameBut k t (carryOut v t)) :
    Answers (SameBut k s) (.next (onRequest cmd read carryOut port req s)) :=
  answers_next.2 (onRequest_keeps (fun t q hq ht => ht.quiet (setPort_quiet t port q hq)) (fun v t ht => ht.trans (carried v t))
    (.refl s))

/-- A request, what its payload reads being known (R191). -/
theorem onRequest_keeps_of_read {P : State → Prop} {α : Type} {cmd : Command} {read : List Byte → Option α}
    {carryOut : α → State → State} {port : Port} {req : Request}
    (ports : ∀ t q, (PortInv port (portOf t port) → PortInv port q) → P t → P (setPort t port q)) (carried : ∀ p v t, read p = some v → P t → P (carryOut v t)) (hs : P s) : P (onRequest cmd read carryOut port req s) := by
  refine onTransaction_keeps ports (fun kept t ht => ?_) hs
  have refused : ∀ st, P (refuse port st t) := fun st =>
    ports t _ (fun h => h.congr) ht
  split
  · exact refused _
  · split
    · exact refused _
    · split
      · exact refused _
      next hr => exact carried _ _ _ hr ht

theorem frameDiscarded_same (addr kind : Byte) (p : List Byte) (s : State) :
    Answers (SameBut k s) (execFrameDiscarded addr kind p s) := by
  refine answers_ite (fun _ => ?_) fun _ => answers_next.2 (.refl s)
  split
  · exact answers_guard (fun _ => .refl s) (frameDone_same s)
  · exact answers_guard (fun _ => (frameDone_same s).trans (countBad_same _)) (frameDone_same s)

theorem unknownCommand_same (port : Port) (req : Request) (s : State) :
    Answers (SameBut k s) (execUnknownCommand port req s) := by
  unfold execUnknownCommand
  split
  · exact answers_next.2 (.refl s)
  · exact answers_guard (fun _ => (onTransaction_quiet fun _ t => refuse_quiet port _ t).same) (.refl s)

theorem receiver_same (r : Receiver) (s : State) : SameBut k s { s with line := { s.line with rx := r } } :=
  .of_line (.inr ⟨rfl, rfl, rfl, fun f hf => ⟨f, hf, rfl⟩⟩)
    (fun h => ⟨h.address, h.admission, h.silence, h.lost, h.status, h.join, h.joinElse, h.resume, h.sends, h.urgent, h.routine,
      h.run, h.idle⟩)
    fun h => h.congr

/-- Every command, in every state, keeps to the table. -/
theorem exec_touches (c : Instr) (s : State) : Answers (SameBut (touched c) s) (exec c s) := by
  cases c with
  | fullReset pins => exact fullReset_same pins s
  | vbakLow => exact answers_next.2 (.of_clock rfl _)
  | vendingPortHold selLow => exact answers_next.2 (.of_blocks (ports := .of_ports (fun h => h.hold true selLow) id))
  | signagePortHold selLow => exact answers_next.2 (.of_blocks (ports := .of_ports id fun h => h.hold _ selLow))
  | vendingPortReset selLow =>
    have port : Quiet s { s with vport := s.vport.release selLow } :=
      .of_same (ports := .of_ports (fun _ => (PortInv.afterReset s.vport selLow).congr) id)
    refine answers_next.2 (Quiet.same ?_)
    split
    · exact port.trans ((endSale_quiet _).trans (evalDemand_quiet _))
    · exact port
  | signagePortReset selLow =>
    have ports : PortsKept s { s with sport := s.sport.release selLow, screen := { s.screen with quiet := false } } :=
      .of_ports id fun _ => (PortInv.afterReset s.sport selLow).congr
    refine answers_next.2 (Quiet.of_screen (fun h => ?_) (ports := ports)).same
    exact ⟨h.outputs, h.sigpwr, nofun, h.ready, h.settling, h.idle, h.retry, h.level, h.trim, h.run, h.ambient⟩
  | strapRead straps =>
    refine answers_guard (fun hg => ?_) (.refl s)
    have hs : straps ≠ 0 := by
      rw [Bool.and_eq_true] at hg
      simpa using hg.2
    refine (SameBut.of_line (l := Line.enter .hunt { s.line with address := straps.toNat })
      (.inr ⟨rfl, rfl, rfl, fun f hf => by cases hf⟩) (fun h => ?_) (fun h => ?_)).quiet (latchV_quiet .linkState _)
    · exact .enter nofun (fun h0 => hs (BitVec.eq_of_toNat_eq h0)) (Nat.le_of_lt_succ straps.isLt) h.idle
    · exact QueueInv.enter h.congr .hunt
  | occAsserted => exact occAsserted_same rfl s
  | occReleased => exact occReleased_same rfl s
  | buttonPress => exact buttonPress_same rfl s
  | ambPulse =>
    refine answers_next.2 (Quiet.of_screen fun h => ?_).same
    exact ⟨h.outputs, h.sigpwr, h.quiet, h.ready, h.settling, h.idle, h.retry, h.level, h.trim, h.run,
      ⟨satSucc_le .., h.ambient.2⟩⟩
  | crystalTick => exact answers_next.2 (crystalStep_same rfl rfl s)
  | time port | calls port | salesState port | board port | condition port =>
    exact answers_request fun _ t => (answer_quiet port _ t).same
  | quote port => exact answers_request fun q t => (carryQuote_quiet port q t).same
  | commit port => exact answers_request fun n t => carryCommit_same rfl rfl port n t
  | releaseRequest port => exact answers_request fun v t => (carryRelease_quiet port v t).same
  | notices port =>
    refine answers_next.2 (onRequest_keeps_of_read (fun t q hq ht => ht.quiet (setPort_quiet t port q hq)) ?_ (.refl s))
    exact fun _ _ t hr ht => ht.quiet (carryNotices_quiet port (readNotices_mask hr) t)
  | screen port =>
    refine answers_next.2 (onRequest_keeps_of_read (fun t q hq ht => ht.quiet (setPort_quiet t port q hq)) ?_ (.refl s))
    exact fun _ _ t hr ht => ht.quiet (carryScreen_quiet port (readScreen_trim hr) t)
  | ready port => exact answers_request fun v t => (carryReady_quiet port v t).same
  | quiet port => exact answers_request fun v t => (carryQuiet_quiet port v t).same
  | collection port clocked =>
    exact answers_ite (fun _ => answers_next.2 (.refl s)) fun _ =>
      answers_next.2 (onTransaction_quiet fun _ t => setPort_quiet t port _ fun h => h.congr).same
  | unknownCommand port req => exact unknownCommand_same port req s
  | downwardFrameStart =>
    exact answers_guard (fun _ => (SameBut.of_clock rfl (recordStart s.clock)).trans (receiver_same _ _)) (.refl s)
  | badFrame => exact answers_guard (fun _ => (receiver_same _ s).trans (countBad_same _)) (.refl s)
  | frameDiscarded addr kind p => exact frameDiscarded_same addr kind p s
  | beacon => exact answers_message fun b t _ _ => takeBeacon_same rfl rfl b t
  | delay => exact answers_message fun f t _ _ => (takeDelay_quiet f t).same
  | cancel => exact answers_message fun n t _ _ => (takeCancel_quiet n t).same
  | reinstate => exact answers_message fun n t _ _ => (takeReinstate_quiet n t).same
  | restart => exact answers_message fun v t _ _ => takeRestart_same v t
  | admission => exact answers_message fun f _ ht _ => takeAdmit_same f ht
  | stopAck => exact answers_message fun n t _ _ => (takeStopAck_quiet n t).same
  | saleAck => exact answers_message fun n t _ _ => takeSaleAck_same rfl rfl n t
  | serialGrant => exact answers_message fun f t _ _ => takeGrant_same rfl f t
  | hold => exact answers_message fun v t _ _ => (takeHold_quiet v t).same
  | releaseMessage => exact answers_message fun v t _ _ => (takeRelease_quiet v t).same
  | loadCall => exact answers_message fun f t _ _ => (takeLoadCall_quiet f t).same
  | loadClear => exact answers_message fun v t _ _ => (takeLoadClear_quiet v t).same
  | loadEnd => exact answers_message fun n t _ _ => (takeLoadEnd_quiet n t).same
  | loadFareDest => exact answers_message fun f t _ _ => takeFareDest_same rfl f t
  | loadFarePrice => exact answers_message fun b t _ _ => takeFarePrice_same rfl b t
  | loadConcession => exact answers_message fun f t _ _ => takeConcession_same rfl f t
  | loadParams => exact answers_message fun p t _ _ => takeParams_same rfl p t
  | setTime => exact answers_message fun f t _ _ => takeSetTime_same rfl f t
  | upwardFrameStart => exact upwardFrameStart_same rfl rfl s
  | frameComplete => exact frameComplete_same rfl s
  | contentionLoss => exact answers_guard (fun _ => contention_same s) (.refl s)
  | lineFault =>
    refine answers_guard (fun hg => lineFault_same ?_) (.refl s)
    cases htx : s.line.tx with
    | none => simp [htx] at hg
    | some f => rfl
  | thresholdReturn => exact thresholdReturn_same s
  | quoteLapse =>
    exact answers_guard (fun _ => ((issue_quiet s _).trans ((latchV_quiet _ _).trans
      ((grantAsked_quiet _).trans (evalDemand_quiet _)))).same) (.refl s)
  | holdExpiry => exact answers_guard (fun _ => ((setHold_quiet _ _ s).trans (offerHoldEnded_quiet _ _)).same) (.refl s)
  | serialAskRepeat => exact answers_guard (fun _ => ((issue_quiet s _).trans (lowWater_quiet _ _)).same) (.refl s)
  | holdoverExpiry =>
    exact answers_guard (fun _ => (SameBut.of_clock rfl _).quiet ((latchTimeState_quiet _).trans (rebuild_quiet _))) (.refl s)
  | stopAckTimeout n =>
    exact answers_guard (fun _ => ((mapCall_quiet s n _).trans ((offerStops_quiet _).trans (rebuild_quiet _))).same) (.refl s)
  | ackTimerExpiry => exact answers_guard (fun _ => .of_line (.inl rfl) (fun h => ⟨h.address, h.admission, h.silence, h.lost,
      h.status, h.join, h.joinElse, h.resume, h.sends, h.urgent, h.routine, h.run, h.idle⟩) fun h => h.congr) (.refl s)
  | joinTimerExpiry =>
    refine answers_guard (fun hg => .of_line (.inr ⟨rfl, rfl, rfl, fun f hf => ⟨f, hf, rfl⟩⟩) (fun h => ?_) fun h => h.congr)
      (.refl s)
    exact ⟨h.address, h.admission, h.silence, h.lost, h.status, fun _ => rfl, fun _ => rfl, h.resume, h.sends, h.urgent,
      h.routine, h.run, h.idle⟩
  | admissionTimeout | silenceTimeout | lostTimeout =>
    refine answers_guard (fun hg => enter_same ?_ nofun) (.refl s)
    rw [Bool.and_eq_true, decide_eq_true_eq] at hg
    rw [hg.1]
    nofun
  | statusPeriod =>
    refine answers_guard (fun hg => SameBut.quiet ?_ (statusCause_quiet _)) (.refl s)
    rw [Bool.and_eq_true, decide_eq_true_eq] at hg
    exact .of_line (.inr ⟨rfl, rfl, rfl, fun f hf => ⟨f, hf, rfl⟩⟩)
      (fun h => ⟨h.address, h.admission, h.silence, h.lost, (decide_eq_true hg.1).symm, h.join, h.joinElse, h.resume, h.sends,
        h.urgent, h.routine, h.run, h.idle⟩) fun h => h.congr
  | quoteDemandExpiry => exact answers_guard (fun _ => ((issue_quiet s _).trans (evalDemand_quiet _)).same) (.refl s)
  | buttonDemandExpiry => exact answers_guard (fun _ => (SameBut.of_platform rfl _).quiet (evalDemand_quiet _)) (.refl s)
  | settleExpiry => exact answers_guard (fun _ => .of_platform rfl _) (.refl s)
  | stopThresholdExpiry =>
    exact answers_ite (fun _ => answers_guard (fun _ => (SameBut.of_platform rfl _).trans (.of_platform rfl _))
      (((SameBut.of_platform rfl _).trans (decideStop_same rfl _)).quiet (rebuild_quiet _))) fun _ => answers_next.2 (.refl s)
  | releaseTimerExpiry => exact releaseTimerExpiry_same rfl s
  | standingExpiry =>
    exact answers_ite (fun _ => answers_guard (fun _ => (SameBut.of_platform rfl _).quiet (offerObservation_quiet _ _ _ _))
      (.of_platform rfl _)) fun _ => answers_next.2 (.refl s)
  | readyTimeout =>
    refine answers_guard (fun hg => (readyTimeout_quiet ?_).same) (.refl s)
    rw [Bool.and_eq_true, decide_eq_true_eq] at hg
    exact hg.1
  | settlingExpiry => exact (settlingExpiry_quiet s).imp fun _ ht => ht.same
  | idleDelayExpiry =>
    refine answers_guard (fun hg => ?_) (.refl s)
    rw [Bool.and_eq_true, decide_eq_true_eq] at hg
    exact ((idleDelayExpiry_quiet hg.1).trans ((latchS_quiet _ _).trans (evalDemand_quiet _))).same
  | faultRetryExpiry =>
    refine answers_guard (fun hg => ?_) (.refl s)
    rw [Bool.and_eq_true, decide_eq_true_eq] at hg
    exact ((faultRetryExpiry_quiet hg.1).trans ((statusCause_quiet _).trans (evalDemand_quiet _))).same
  | ambientWindowEnd => exact answers_guard (fun _ => (ambientWindowEnd_quiet s).same) (.refl s)
  | duePointReached n | lapsePointReached n =>
    exact answers_guard (fun _ => ((evaluateCall_quiet n s).trans (rebuild_quiet _)).same) (.refl s)
  | horizonEntryReached | displayEndReached | stalenessPointReached =>
    exact answers_guard (fun _ => (rebuild_quiet s).same) (.refl s)
  | wakeEntryReached => exact answers_guard (fun _ => (evalDemand_quiet s).same) (.refl s)
  | rollover => exact answers_guard (fun _ => crystalStep_same rfl rfl s) (.refl s)
  | selRisesInDiscard port =>
    refine answers_guard (fun _ => (setPort_quiet s port _ fun h => ?_).same) (.refl s)
    split
    · exact ⟨h.notices, h.mask, .inl rfl, rfl⟩
    · exact h.congr
  | symbolPeriodEnd message echo => exact symbolPeriodEnd_same rfl rfl message echo s

end SameBut

end Sys2Proof.Machine

/-! Steps and commands (O1, O2); the link and the queues (O57), and the supply chain (O59), through every step. -/

namespace Sys2Proof.Machine

-- One theorem at a time: the whole text is checked in one process.
set_option Elab.async false

/-- Settles O1: both halves are the equations of `step`. -/
theorem stepTakesFront : Obligations.StepTakesFront := by
  unfold Obligations.StepTakesFront
  refine ⟨fun c rest s => rfl, fun s hs => ?_⟩
  unfold step
  rw [hs]

/-- Settles O2: every command answers, and leaves the queue of commands alone (`exec_touches`). -/
theorem everyCommandCompletes : Obligations.EveryCommandCompletes := by
  unfold Obligations.EveryCommandCompletes
  intro c s
  obtain ⟨t, ht, same⟩ := exec_touches c s
  exact ⟨t, ht, same.pending⟩

/-- Settles O57: every command keeps both (`exec_touches`). -/
theorem lineKept : Obligations.LineKept := by
  unfold Obligations.LineKept
  intro s t h
  refine ⟨step_keeps_of_answers (P := fun s => LinkInv s.line) (fun _ _ => id) (fun c s hs => ?_) h,
    step_keeps_of_answers (P := fun s => QueueInv s.line) (fun _ _ => id) (fun c s hs => ?_) h⟩
  · exact (exec_touches c s).imp fun _ same => same.link hs
  · exact (exec_touches c s).imp fun _ same => same.queues hs

/-- Settles O59: every command keeps it (`exec_touches`). -/
theorem supplyKept : Obligations.SupplyKept := by
  unfold Obligations.SupplyKept
  intro s t h
  exact step_keeps_of_answers (fun _ _ hs => hs.congr rfl rfl)
    (fun c s hs => (exec_touches c s).imp fun _ same => same.supply hs) h

end Sys2Proof.Machine

/-! The occupancy (O58) through every step. -/

namespace Sys2Proof.Machine

-- One theorem at a time: the whole text is checked in one process.
set_option Elab.async false

section Platform

variable {m : Platform} {s t : State}

/-- The state names what runs and what is recorded in it; a held-over call waits in BLIND only (R152 to R156, R166, R168). -/
theorem PlatformInv.held (h : PlatformInv m) (hs : m.state ≠ .blind) : m.heldOver = none := by
  cases hh : m.heldOver with
  | none => rfl
  | some n => exact absurd (h.1 (by rw [hh]; rfl)) hs

theorem PlatformInv.over (released : m.occ = false) (held : m.heldOver = none) : PlatformInv (occupancyOver m) :=
  ⟨fun hs => absurd hs (by simp [occupancyOver, held]), released, rfl, rfl, rfl, rfl, rfl, rfl, rfl⟩

/-- The fields a state speaks of; the others are free. -/
theorem PlatformInv.congr {n : Platform} (h : PlatformInv m) (occ : n.occ = m.occ := by rfl) (state : n.state = m.state := by rfl)
    (held : n.heldOver = m.heldOver := by rfl) (start : n.start = m.start := by rfl) (release : n.release = m.release := by rfl)
    (matched : n.matched = m.matched := by rfl) (reached : n.thresholdReached = m.thresholdReached := by rfl)
    (settle : n.settleTimer.isSome = m.settleTimer.isSome := by rfl) (stop : n.stopTimer.isSome = m.stopTimer.isSome := by rfl)
    (standing : n.standingTimer.isSome = m.standingTimer.isSome := by rfl)
    (filter : n.releaseTimer.isSome = m.releaseTimer.isSome := by rfl) : PlatformInv n := by
  have none_iff : ∀ {a b : Timer}, a.isSome = b.isSome → (a = none ↔ b = none) := fun h => by
    rw [← Option.isSome_eq_false_iff.trans Option.isNone_iff_eq_none, h, Option.isSome_eq_false_iff, Option.isNone_iff_eq_none]
  unfold PlatformInv at h ⊢
  rw [state, held, occ, start, release, matched, reached, settle, stop, filter, none_iff settle, none_iff stop,
    none_iff standing, none_iff filter]
  exact h

/-- What holds of an occupancy with a release filter in progress: OCC is released (R155). -/
theorem PlatformInv.released (h : PlatformInv m) (filter : m.releaseTimer.isSome = true) : m.occ = false := by
  obtain ⟨-, hm⟩ := h
  cases hs : m.state <;> rw [hs] at hm <;> dsimp only at hm
  case clear => exact hm.1
  case settling =>
    obtain ⟨-, -, -, -, -, -, hf, -⟩ := hm
    rw [hf] at filter
    cases filter
  case occupied =>
    obtain ⟨-, -, -, -, hf, -⟩ := hm
    simpa [filter] using hf
  case stopped =>
    obtain ⟨-, -, -, -, hf⟩ := hm
    simpa [filter] using hf
  case blind =>
    obtain ⟨-, -, -, -, -, -, hf⟩ := hm
    simpa [filter] using hf

/-- A STOP (R156): the settle and the stop timers have run out, and no release filter runs under OCC. -/
theorem PlatformInv.stopped {n : Option Nat} (held : m.heldOver = none) (start : m.start.isSome = true)
    (settle : m.settleTimer = none) (stop : m.stopTimer = none) (release : m.release.isSome = !m.occ)
    (filter : m.releaseTimer.isSome = !m.occ) : PlatformInv { m with state := .stopped, matched := n } :=
  ⟨fun hs => absurd hs (by simp [held]), start, settle, stop, release, filter⟩

theorem decideStop_platform' (s : State) :
    ∃ n, (decideStop s).platform = { s.platform with state := .stopped, matched := n } := by
  unfold decideStop
  dsimp only
  split
  next c _ _ _ => exact ⟨some c.service, by simp⟩
  · exact ⟨none, by simp⟩

theorem decidePass_platform' (s : State) : (decidePass s).platform = occupancyOver s.platform := by
  unfold decidePass
  dsimp only
  split <;> simp

theorem decideDeparture_platform' (s : State) : (decideDeparture s).platform = occupancyOver s.platform := by
  unfold decideDeparture
  dsimp only
  split
  · split <;> simp
  · rfl

theorem endBlind_platform' (s : State) : (endBlind s).platform = { occupancyOver s.platform with heldOver := none } := by
  unfold endBlind
  dsimp only
  split <;> simp

theorem markDayCrossed_kept (h : PlatformInv s.platform) : PlatformInv (markDayCrossed s).platform := by
  unfold markDayCrossed
  split
  · exact h.congr
  · exact h

theorem rolloverCalls_platform (h : PlatformInv s.platform) : PlatformInv (rolloverCalls s).platform := by
  unfold rolloverCalls
  refine markDayCrossed_kept ?_
  rw [(newDay_quiet s).platform]
  exact h

theorem crystalStep_platform (h : PlatformInv s.platform) : PlatformInv (crystalStep s).platform := by
  have ticked : PlatformInv (tickPlatform s.platform) :=
    h.congr (settle := countDown_isSome _) (stop := countDown_isSome _) (standing := countDown_isSome _)
      (filter := countDown_isSome _)
  unfold crystalStep
  dsimp only
  split
  · rw [(rebuild_quiet _).platform]
    exact rolloverCalls_platform ticked
  · exact ticked

/-- OCC stands asserted in every state but CLEAR while no release filter runs (R153, R155). -/
theorem PlatformInv.asserted (h : PlatformInv m) (hs : m.state ≠ .clear) (filter : m.releaseTimer.isSome = false) :
    m.occ = true := by
  obtain ⟨-, hm⟩ := h
  cases hst : m.state <;> rw [hst] at hm hs <;> dsimp only at hm
  case clear => exact absurd rfl hs
  case settling => exact hm.1
  case occupied =>
    obtain ⟨-, -, -, -, hf, -⟩ := hm
    simpa [filter] using hf
  case stopped =>
    obtain ⟨-, -, -, -, hf⟩ := hm
    simpa [filter] using hf
  case blind =>
    obtain ⟨-, -, -, -, -, -, hf⟩ := hm
    simpa [filter] using hf

/-- An assertion of OCC in CLEAR (R153). -/
theorem PlatformInv.settles (h : PlatformInv m) (hs : m.state = .clear) (st : Stamp) (a b c : Nat) : PlatformInv { m with
    occ := true, state := .settling, start := some st, matched := none, thresholdReached := false, dayCrossed := false,
    settleTimer := some a, stopTimer := some b, standingTimer := some c } := by
  have held := h.held (by simp [hs])
  obtain ⟨-, hm⟩ := h
  rw [hs] at hm
  obtain ⟨-, -, release, -, -, -, -, filter⟩ := hm
  exact ⟨fun hh => absurd hh (by simp [held]), rfl, rfl, release, rfl, rfl, rfl, filter, rfl⟩

/-- A release filter starts in OCCUPIED, STOPPED and BLIND (R155, R166). -/
theorem PlatformInv.filters (h : PlatformInv m) (hc : m.state ≠ .clear) (hs : m.state ≠ .settling) (st : Stamp) (a : Nat) :
    PlatformInv { m with occ := false, release := some st, releaseTimer := some a } := by
  obtain ⟨held, hm⟩ := h
  refine ⟨held, ?_⟩
  cases hst : m.state <;> rw [hst] at hm hs hc <;> dsimp only at hm ⊢
  case clear => exact absurd rfl hc
  case settling => exact absurd rfl hs
  case occupied =>
    obtain ⟨start, matched, settle, -, -, stop, -⟩ := hm
    exact ⟨start, matched, settle, rfl, rfl, stop, fun _ => rfl⟩
  case stopped =>
    obtain ⟨start, settle, stop, -, -⟩ := hm
    exact ⟨start, settle, stop, rfl, rfl⟩
  case blind =>
    obtain ⟨start, matched, settle, stop, standing, -, -⟩ := hm
    exact ⟨start, matched, settle, stop, standing, rfl, rfl⟩

/-- A release filter ends by a re-assertion, the stop threshold not having run out in it (R155, R166). -/
theorem PlatformInv.refilled (h : PlatformInv m) (hc : m.state ≠ .clear) (hs : m.state ≠ .settling)
    (reached : m.state = .occupied → m.thresholdReached = false) :
    PlatformInv { m with occ := true, release := none, releaseTimer := none } := by
  obtain ⟨held, hm⟩ := h
  refine ⟨held, ?_⟩
  cases hst : m.state <;> rw [hst] at hm hs hc <;> dsimp only at hm ⊢
  case clear => exact absurd rfl hc
  case settling => exact absurd rfl hs
  case occupied =>
    obtain ⟨start, matched, settle, -, -, stop, -⟩ := hm
    exact ⟨start, matched, settle, rfl, rfl, stop, fun hr => absurd hr (by simp [reached hst])⟩
  case stopped =>
    obtain ⟨start, settle, stop, -, -⟩ := hm
    exact ⟨start, settle, stop, rfl, rfl⟩
  case blind =>
    obtain ⟨start, matched, settle, stop, standing, -, -⟩ := hm
    exact ⟨start, matched, settle, stop, standing, rfl, rfl⟩

/-- OCC asserted again after the stop threshold has run out in a release filter (R156). -/
theorem PlatformInv.stopsAgain (h : PlatformInv m) (hs : m.state = .occupied) (reached : m.thresholdReached = true)
    (n : Option Nat) :
    PlatformInv { m with occ := true, release := none, releaseTimer := none, state := .stopped, matched := n } := by
  have held := h.held (by simp [hs])
  obtain ⟨-, hm⟩ := h
  rw [hs] at hm
  obtain ⟨start, -, settle, -, -, stop, -⟩ := hm
  rw [reached] at stop
  exact ⟨fun hh => absurd hh (by simp [held]), start, settle, by simpa using stop, rfl, rfl⟩

theorem occAsserted_platform (h : PlatformInv s.platform) :
    Answers (fun t => PlatformInv t.platform) (execOccAsserted s) := by
  have again : s.platform.state ≠ .clear → s.platform.releaseTimer.isSome = false →
      PlatformInv { s.platform with occ := true } := fun hs hf => h.congr (occ := (h.asserted hs hf).symm)
  unfold execOccAsserted
  dsimp only
  split
  next hs => exact answers_next.2 (h.settles hs _ _ _ _)
  next hs =>
    have hm := h.2
    rw [hs] at hm
    obtain ⟨occ, -⟩ := hm
    exact answers_next.2 (h.congr (occ := occ.symm))
  next hs =>
    refine answers_ite (fun hf => answers_next.2 (again (by simp [hs]) (by simpa using hf))) fun _ =>
      answers_ite (fun hr => answers_next.2 ?_) fun hr => answers_next.2 ?_
    · rw [(rebuild_quiet _).platform]
      obtain ⟨n, hn⟩ := decideStop_platform' (endFilter { s with platform := { s.platform with occ := true } })
      rw [hn]
      exact h.stopsAgain hs hr n
    · exact h.refilled (by simp [hs]) (by simp [hs]) fun _ => by simpa using hr
  all_goals
    next hs =>
      exact answers_guard (fun hf => again (by simp [hs]) (by simpa using hf)) (h.refilled (by simp [hs]) (by simp [hs])
        (by simp [hs]))

theorem occReleased_platform (h : PlatformInv s.platform) :
    Answers (fun t => PlatformInv t.platform) (execOccReleased s) := by
  unfold execOccReleased
  dsimp only
  split
  next hs =>
    have hm := h.2
    rw [hs] at hm
    obtain ⟨occ, -⟩ := hm
    exact answers_next.2 (h.congr (occ := occ.symm))
  next hs => exact answers_next.2 (.over rfl (h.held (by simp [hs])))
  all_goals
    next hs =>
      exact answers_guard (fun hf => h.congr (occ := (h.released hf).symm)) (h.filters (by simp [hs]) (by simp [hs]) _ _)

theorem settleExpiry_platform (h : PlatformInv s.platform) :
    Answers (fun t => PlatformInv t.platform) (execSettleExpiry s) := by
  refine answers_guard (fun hg => ?_) h
  rw [Bool.and_eq_true, decide_eq_true_eq] at hg
  have held := h.held (by simp [hg.1])
  have hm := h.2
  rw [hg.1] at hm
  obtain ⟨occ, start, release, matched, -, stop, filter, reached⟩ := hm
  refine ⟨fun hh => absurd hh (by simp [held]), start, matched, rfl, ?_, ?_, ?_, fun hr => ?_⟩
  · simp [occ, release]
  · simp [occ, filter]
  · simpa [reached] using stop
  · exact absurd hr (by simp [reached])

theorem stopThresholdExpiry_platform (h : PlatformInv s.platform) :
    Answers (fun t => PlatformInv t.platform) (execStopThresholdExpiry s) := by
  refine answers_ite (fun hg => ?_) fun _ => answers_next.2 h
  rw [Bool.and_eq_true, decide_eq_true_eq] at hg
  have held := h.held (by simp [hg.1])
  have hm := h.2
  rw [hg.1] at hm
  obtain ⟨start, matched, settle, release, filter, -, -⟩ := hm
  refine answers_guard (fun hf => ?_) ?_
  · refine ⟨fun hh => absurd hh (by simp [held]), ?_⟩
    rw [show s.platform.state = .occupied from hg.1]
    exact ⟨start, matched, settle, release, filter, rfl, fun _ => h.released hf⟩
  · rw [(rebuild_quiet _).platform]
    obtain ⟨n, hn⟩ := decideStop_platform' { s with platform := { s.platform with stopTimer := none } }
    rw [hn]
    exact .stopped held start settle rfl release filter

theorem releaseTimerExpiry_platform (h : PlatformInv s.platform) :
    Answers (fun t => PlatformInv t.platform) (execReleaseTimerExpiry s) := by
  refine answers_ite (fun hf => ?_) fun _ => answers_next.2 h
  have occ := h.released (by rw [hf]; rfl)
  split
  next hs =>
    refine answers_next.2 ?_
    rw [(rebuild_quiet _).platform, decidePass_platform']
    exact .over occ (h.held (by simp [hs]))
  next hs =>
    refine answers_next.2 ?_
    rw [(rebuild_quiet _).platform, decideDeparture_platform']
    exact .over occ (h.held (by simp [hs]))
  next hs =>
    refine answers_next.2 ?_
    rw [endBlind_platform']
    exact ⟨nofun, occ, rfl, rfl, rfl, rfl, rfl, rfl, rfl⟩
  all_goals exact answers_next.2 h

/-- The standing alarm is heard of once (R161). -/
theorem PlatformInv.standingOver (h : PlatformInv m) : PlatformInv { m with standingTimer := none } := by
  obtain ⟨held, hm⟩ := h
  refine ⟨held, ?_⟩
  cases hst : m.state <;> rw [hst] at hm <;> dsimp only at hm ⊢
  case clear =>
    obtain ⟨occ, start, release, matched, settle, stop, -, filter⟩ := hm
    exact ⟨occ, start, release, matched, settle, stop, rfl, filter⟩
  case blind =>
    obtain ⟨start, matched, settle, stop, -, release, filter⟩ := hm
    exact ⟨start, matched, settle, stop, rfl, release, filter⟩
  all_goals exact hm

/-- A full reset starts in BLIND under OCC, else in CLEAR with no call held over (R167, R168). -/
theorem resetPlatform_kept (occ : Bool) (bank : List Call) (held : occ = false → (resetPlatform occ bank).heldOver = none) :
    PlatformInv (resetPlatform occ bank) := by
  cases occ
  · exact ⟨fun hh => absurd hh (by simp [held rfl]), rfl, rfl, rfl, rfl, rfl, rfl, rfl, rfl⟩
  · exact ⟨fun _ => rfl, rfl, rfl, rfl, rfl, rfl, rfl, rfl⟩

theorem owedRollover_platform (h : s.platform.state = .clear ∨ s.platform.state = .blind) :
    (owedRollover s).platform = s.platform := by
  unfold owedRollover
  split
  · unfold rolloverCalls
    have day : (recomputeAll (openDay (closeDay { s with clock := { s.clock with owed := false } }))).platform = s.platform :=
      (newDay_quiet _).platform
    generalize recomputeAll _ = t at day ⊢
    have calm : ¬ (s.platform.state = .settling || s.platform.state = .occupied) = true := by
      rcases h with e | e <;> simp [e]
    unfold markDayCrossed
    rw [day, if_neg calm]
    exact day
  · rfl

theorem warmCalls_quiet (s : State) : Quiet s (warmCalls s) :=
  (mapActive_quiet s _).trans ((recomputeAll_quiet _).trans (offerStops_quiet _))

/-- After the warm-start actions a held-over call waits in BLIND only (R168). -/
theorem warmActions_platform {occ : Bool} {bank : List Call} (h : s.platform = resetPlatform occ bank) :
    PlatformInv (warmActions s).platform := by
  have before : (warmCalls (owedRollover s)).platform = resetPlatform occ bank := by
    rw [(warmCalls_quiet _).platform, owedRollover_platform, h]
    rw [h]
    cases occ
    · exact .inl rfl
    · exact .inr rfl
  unfold warmActions heldOverDeparture
  generalize warmCalls (owedRollover s) = t at before
  split
  next n hc _ =>
    rw [(reportDeparture_quiet _ _ _).platform, before]
    rw [before] at hc
    cases occ
    · exact ⟨nofun, rfl, rfl, rfl, rfl, rfl, rfl, rfl, rfl⟩
    · cases hc
  next hn =>
    rw [before]
    refine resetPlatform_kept occ bank fun ho => ?_
    cases hh : (resetPlatform occ bank).heldOver with
    | none => rfl
    | some n => exact (hn n (by rw [before, ho]; rfl) (by rw [before]; exact hh)).elim

theorem endReset_platform (straps : BitVec 4) (s : State) : (endReset straps s).platform = s.platform := by
  unfold endReset
  rw [evalDemandAt_platform]
  unfold firstBoard readStraps
  dsimp only
  split <;> simp

theorem fullReset_platform (pins : ResetPins) (s : State) :
    Answers (fun t => PlatformInv t.platform) (execFullReset pins s) := by
  refine answers_ite (fun _ => answers_next.2 ?_) fun _ => answers_next.2 ?_ <;> rw [endReset_platform]
  · exact resetPlatform_kept pins.occ [] fun _ => rfl
  · exact warmActions_platform rfl

theorem quiet_platform (q : Quiet s t) (h : PlatformInv s.platform) : PlatformInv t.platform := by
  rw [q.platform]
  exact h

theorem same_platform {k : Touched} (same : SameBut k s t) (calm : k.platform = false) (h : PlatformInv s.platform) :
    PlatformInv t.platform := by
  rw [same.platform.resolve_left (by simp [calm])]
  exact h

theorem buttonPress_platform (h : PlatformInv s.platform) :
    Answers (fun t => PlatformInv t.platform) (execButtonPress s) := by
  refine answers_ite (fun _ => ?_) fun _ => answers_next.2 h
  have pressed : PlatformInv (latchS .stopButton { s with platform := { s.platform with
      lastPress := some s.clock.crystal, buttonDemand := some Config.demandTime } }).platform :=
    quiet_platform (latchS_quiet _ _) h.congr
  dsimp only
  split
  · exact answers_guard (fun _ => quiet_platform ((wantStop_quiet _ _ _).trans (rebuild_quiet _)) pressed)
      (quiet_platform (evalDemand_quiet _) pressed)
  · exact answers_next.2 (quiet_platform (evalDemand_quiet _) pressed)

/-- A beacon changes the monitor by a rollover alone (R59, R162). -/
theorem takeBeacon_platform (b : BeaconFields) (h : PlatformInv s.platform) : PlatformInv (takeBeacon b s).platform := by
  have stored : PlatformInv (storeCondition b (beaconLink s)).platform :=
    same_platform (k := {}) ((beaconLink_same s).trans (storeCondition_same b _)) rfl h
  unfold takeBeacon
  generalize storeCondition b (beaconLink s) = t at stored
  have measured : PlatformInv (measureBeacon b t).platform := by
    unfold measureBeacon
    dsimp only
    split
    · exact quiet_platform (statusCause_quiet _) stored
    · split
      · refine same_platform (afterCorrection_same (k := { clock := true }) rfl b _ true _) rfl ?_
        unfold stepForward
        dsimp only
        split
        · exact rolloverCalls_platform stored
        · exact stored
      · split <;>
          exact same_platform (afterCorrection_same (k := { clock := true }) rfl b _ false _) rfl stored
  unfold beaconTime
  dsimp only
  split
  · exact stored
  · split
    · refine quiet_platform ((recomputeAll_quiet _).trans (rebuild_quiet _)) ?_
      exact same_platform (lock_same (k := { clock := true }) rfl _) rfl stored
    · exact measured

/-- Every command that changes the monitor keeps it sound. -/
theorem exec_platform {c : Instr} (touches : (touched c).platform = true) (h : PlatformInv s.platform) :
    Answers (fun t => PlatformInv t.platform) (exec c s) := by
  cases c with
  | fullReset pins => exact fullReset_platform pins s
  | occAsserted => exact occAsserted_platform h
  | occReleased => exact occReleased_platform h
  | buttonPress => exact buttonPress_platform h
  | buttonDemandExpiry =>
    refine answers_guard (fun _ => ?_) h
    rw [(evalDemand_quiet _).platform]
    exact h.congr
  | settleExpiry => exact settleExpiry_platform h
  | stopThresholdExpiry => exact stopThresholdExpiry_platform h
  | releaseTimerExpiry => exact releaseTimerExpiry_platform h
  | standingExpiry =>
    refine answers_ite (fun _ => answers_guard (fun _ => ?_) h.standingOver) fun _ => answers_next.2 h
    rw [(offerObservation_quiet _ _ _ _).platform]
    exact h.standingOver
  | crystalTick => exact answers_next.2 (crystalStep_platform h)
  | rollover => exact answers_guard (fun _ => crystalStep_platform h) h
  | beacon addr p =>
    refine answers_next.2 (onMessage_keeps (P := fun t => PlatformInv t.platform) id (fun t ht => ?_)
      (fun b t _ ht => takeBeacon_platform b ht) h)
    exact same_platform (onMalformed_same (k := {}) .beacon t) rfl ht
  | _ => cases touches

end Platform

/-- Settles O58: a command that does not change the monitor keeps it (`exec_touches`), and so does every other
(`exec_platform`). -/
theorem platformKept : Obligations.PlatformKept := by
  unfold Obligations.PlatformKept
  intro s t h
  refine step_keeps_of_answers (P := fun s => PlatformInv s.platform) (fun _ _ => id) (fun c s hs => ?_) h
  cases hc : (touched c).platform with
  | true => exact exec_platform hc hs
  | false => exact (exec_touches c s).imp fun _ same => same_platform same hc hs

end Sys2Proof.Machine

/-! The serial stock, the journal and the drain (O55) through every step. -/

namespace Sys2Proof.Machine

-- One theorem at a time: the whole text is checked in one process.
set_option Elab.async false

/-! ## Sequence numbers that rise by one -/

/-- Of consecutive numbers, those above a bound are consecutive (R97). -/
theorem filter_range' (m a n : Nat) :
    (List.range' a n).filter (fun x => decide (m < x)) = List.range' (max a (m + 1)) (a + n - max a (m + 1)) := by
  induction n generalizing a with
  | zero => simp
  | succ n ih =>
    rw [List.range'_succ, List.filter_cons, ih]
    by_cases h : m < a
    · rw [if_pos (by simpa using h), max_eq_left (by omega), max_eq_left (by omega), show a + (n + 1) - a = n + 1 by omega,
        List.range'_succ]
      congr 2
      omega
    · rw [if_neg (by simpa using h), show max (a + 1) (m + 1) = max a (m + 1) by omega, show a + 1 + n = a + (n + 1) by omega]

section Stock

variable {i : Issue}

/-- The sequence numbers of the journal, up to the counter (R97). -/
theorem StockInv.sequences (h : StockInv i) :
    i.journal.map Ticket.sequence = List.range' (i.sequence - i.journal.length + 1) i.journal.length := by
  rw [h.rising, List.range'_eq_map_range]

theorem StockInv.sequence_le (h : StockInv i) {t : Ticket} (ht : t ∈ i.journal) : t.sequence ≤ i.sequence := by
  have hm : t.sequence ∈ i.journal.map Ticket.sequence := List.mem_map_of_mem ht
  have hc := h.counter.2
  rw [h.sequences, List.mem_range'_1] at hm
  omega

/-- The numbers of a journal that ends at the counter and rises by one. -/
theorem rising_of_range' {l : List Ticket} {c a n : Nat} (h : l.map Ticket.sequence = List.range' a n) (hc : a + n = c + 1)
    (ha : 1 ≤ a) : l.length ≤ c ∧ l.map Ticket.sequence = (List.range l.length).map fun k => c - l.length + 1 + k := by
  have hl : l.length = n := by
    have := congrArg List.length h
    simpa using this
  refine ⟨by omega, ?_⟩
  rw [h, hl, ← List.range'_eq_map_range]
  congr 1
  omega

/-- The journal less the records up to a number (R141). -/
theorem StockInv.removed (h : StockInv i) (m : Nat) :
    StockInv { i with journal := i.journal.filter fun t => m < t.sequence } := by
  have sub : (i.journal.filter fun t => m < t.sequence).Sublist i.journal := List.filter_sublist
  have map : (i.journal.filter fun t => m < t.sequence).map Ticket.sequence
      = List.range' (max (i.sequence - i.journal.length + 1) (m + 1))
          (i.sequence - i.journal.length + 1 + i.journal.length - max (i.sequence - i.journal.length + 1) (m + 1)) := by
    rw [← filter_range', ← h.sequences, List.filter_map]
    rfl
  have hc := h.counter
  by_cases hm : m ≤ i.sequence
  · obtain ⟨length, rising⟩ := rising_of_range' (c := i.sequence) map (by omega) (by omega)
    exact ⟨h.blockCount, h.blockRange, h.apart, fun b hb t ht => h.unissued b hb t (sub.mem ht),
      h.serials.sublist (sub.map _), sub.length_le.trans h.size, ⟨hc.1, length⟩, rising⟩
  · have none : i.journal.filter (fun t => m < t.sequence) = [] := by
      refine List.filter_eq_nil_iff.2 fun t ht => ?_
      have := h.sequence_le ht
      simp only [decide_eq_true_eq]
      omega
    rw [none]
    exact ⟨h.blockCount, h.blockRange, h.apart, fun b hb t ht => absurd ht List.not_mem_nil, .nil, Nat.zero_le _,
      ⟨hc.1, Nat.zero_le _⟩, rfl⟩

/-- Two ranges that do not meet share no serial (R95). -/
theorem rangesMeet_of_holds {b d : Block} {n : Nat} (hb : b.holds n) (hd : d.holds n) :
    rangesMeet b.next b.count d.next d.count = true := by
  obtain ⟨hb, hb'⟩ := hb
  obtain ⟨hd, hd'⟩ := hd
  rw [rangesMeet, Bool.and_eq_true, decide_eq_true_eq, decide_eq_true_eq]
  omega

/-- What is left of the oldest block, and the blocks behind it (R94). -/
def Block.rest (b : Block) : Block := { b with next := b.next + 1, count := b.count - 1 }

theorem takeSerial_cons (b : Block) (bs : List Block) :
    takeSerial (b :: bs) = if b.count ≤ 1 then bs else b.rest :: bs := rfl

theorem Block.holds_of_rest {b : Block} {n : Nat} (h : b.rest.holds n) : b.holds n ∧ n ≠ b.next := by
  obtain ⟨low, high⟩ := h
  simp only [Block.rest] at low high
  exact ⟨⟨by omega, by omega⟩, by omega⟩

/-- The blocks after a serial has been taken are sound, and none of them holds that serial. -/
theorem StockInv.serialTaken (h : StockInv i) {b : Block} {bs : List Block} (hbs : i.blocks = b :: bs) :
    StockInv { i with blocks := takeSerial i.blocks } ∧ ∀ d ∈ takeSerial i.blocks, ¬ d.holds b.next := by
  have hb : b ∈ i.blocks := hbs ▸ List.mem_cons_self
  obtain ⟨first, next, count, top, last⟩ := h.blockRange b hb
  have apart := h.apart
  rw [hbs, List.pairwise_cons] at apart
  obtain ⟨meets, apart⟩ := apart
  have tail : ∀ d ∈ bs, d ∈ i.blocks := fun d hd => hbs ▸ List.mem_cons_of_mem _ hd
  have others : ∀ d ∈ bs, ¬ d.holds b.next := fun d hd hn => by
    have := rangesMeet_of_holds ⟨le_refl _, by omega⟩ hn
    rw [meets d hd] at this
    cases this
  have size := h.blockCount
  rw [hbs, List.length_cons] at size
  rw [hbs, takeSerial_cons]
  split
  · exact ⟨⟨by simp only; omega, fun d hd => h.blockRange d (tail d hd), apart, fun d hd => h.unissued d (tail d hd),
      h.serials, h.size, h.counter, h.rising⟩, others⟩
  next hcount =>
    refine ⟨⟨by simp only [List.length_cons]; omega, fun d hd => ?_, List.pairwise_cons.2 ⟨fun d hd => ?_, apart⟩,
      fun d hd => ?_, h.serials, h.size, h.counter, h.rising⟩, fun d hd => ?_⟩
    · rcases List.mem_cons.1 hd with rfl | hd
      · exact ⟨first, by simp only [Block.rest]; omega, by simp only [Block.rest]; omega, by simp only [Block.rest]; omega,
          by simp only [Block.rest]; omega⟩
      · exact h.blockRange d (tail d hd)
    · have := meets d hd
      change rangesMeet (b.next + 1) (b.count - 1) d.next d.count = false
      simp only [rangesMeet, Bool.and_eq_false_iff, decide_eq_false_iff_not] at this ⊢
      omega
    · rcases List.mem_cons.1 hd with rfl | hd
      · exact fun t ht hn => h.unissued b hb t ht (Block.holds_of_rest hn).1
      · exact h.unissued d (tail d hd)
    · rcases List.mem_cons.1 hd with rfl | hd
      · exact fun hn => (Block.holds_of_rest hn).2 rfl
      · exact others d hd

/-- A commit takes the next serial of the oldest block and appends its record (R94, R98). -/
theorem StockInv.committed (h : StockInv i) {t : Ticket} (notFull : journalFull i = false) (stock : remaining i.blocks ≠ 0)
    (sequence : t.sequence = i.sequence + 1) (serial : t.serial = nextSerial i.blocks) :
    StockInv { i with blocks := takeSerial i.blocks, journal := i.journal ++ [t], sequence := t.sequence } := by
  rw [journalFull, Bool.or_eq_false_iff, decide_eq_false_iff_not, decide_eq_false_iff_not] at notFull
  obtain ⟨room, top⟩ := notFull
  have hc := h.counter.2
  have map : (i.journal ++ [t]).map Ticket.sequence
      = List.range' (i.sequence - i.journal.length + 1) (i.journal.length + 1) := by
    rw [List.map_append, h.sequences, List.range'_concat]
    simp only [List.map_cons, List.map_nil, sequence]
    congr 2
    omega
  obtain ⟨length, rising⟩ := rising_of_range' (c := t.sequence) map (by omega) (by omega)
  cases hbs : i.blocks with
  | nil => exact absurd (by rw [hbs]; rfl) stock
  | cons b bs =>
    obtain ⟨taken, fresh⟩ := h.serialTaken hbs
    have hb : b ∈ i.blocks := hbs ▸ List.mem_cons_self
    have hs : t.serial = b.next := by rw [serial, hbs]; rfl
    rw [hbs] at taken fresh
    refine ⟨taken.blockCount, taken.blockRange, taken.apart, fun d hd x hx => ?_, ?_, ?_, ⟨by simp only; omega, length⟩, rising⟩
    · rcases List.mem_append.1 hx with hx | hx
      · exact taken.unissued d hd x hx
      · rw [List.mem_singleton.1 hx, hs]
        exact fresh d hd
    · rw [List.map_append, List.nodup_append]
      refine ⟨h.serials, List.nodup_singleton _, fun a ha c hc => ?_⟩
      obtain ⟨x, hx, rfl⟩ := List.mem_map.1 ha
      rintro rfl
      have hxs : x.serial = b.next := (List.mem_singleton.1 hc).trans hs
      have hcount := (h.blockRange b hb).2.2.1
      exact h.unissued b hb x hx ⟨by omega, by omega⟩
    · simp only [List.length_append, List.length_singleton]
      omega

/-- A block joins a stock that has room, meets none of its unused ranges and none of the journal's serials (R95). -/
theorem StockInv.granted (h : StockInv i) {first count : Nat} (low : 1 ≤ first) (some : 1 ≤ count)
    (most : count ≤ Config.grantTop) (high : first + count ≤ Config.serialTop + 1)
    (accepted : grantOutcome i first count = .accepted) :
    StockInv { i with blocks := i.blocks ++ [{ first := first, next := first, count := count }] } := by
  unfold grantOutcome at accepted
  split at accepted
  · cases accepted
  next room =>
    split at accepted
    · cases accepted
    next overlap =>
      split at accepted
      · cases accepted
      next reissue =>
        simp only [Bool.not_eq_true, List.any_eq_false, Bool.and_eq_true, decide_eq_true_eq, not_and] at overlap reissue
        refine ⟨?_, fun b hb => ?_, List.pairwise_append.2 ⟨h.apart, List.pairwise_singleton _ _, fun b hb d hd => ?_⟩,
          fun b hb t ht => ?_, h.serials, h.size, h.counter, h.rising⟩
        · simp only [List.length_append, List.length_singleton]
          omega
        · rcases List.mem_append.1 hb with hb | hb
          · exact h.blockRange b hb
          · rw [List.mem_singleton.1 hb]
            exact ⟨low, le_refl _, some, most, high⟩
        · rw [List.mem_singleton.1 hd]
          have := overlap b hb
          simp only [rangesMeet, Bool.and_eq_false_iff, decide_eq_false_iff_not] at this ⊢
          omega
        · rcases List.mem_append.1 hb with hb | hb
          · exact h.unissued b hb t ht
          · rw [List.mem_singleton.1 hb]
            exact fun ⟨hl, hh⟩ => reissue t ht hl hh

theorem readGrant_range {p : List Byte} {f : Nat × Nat} (h : readGrant p = some f) :
    1 ≤ f.1 ∧ 1 ≤ f.2 ∧ f.2 ≤ Config.grantTop ∧ f.1 + f.2 ≤ Config.serialTop + 1 := by
  simp only [readGrant, ofLength] at h
  split at h
  · cases h
    obtain ⟨low, high⟩ := clamp_range (lo := 1) (hi := Config.serialTop) (field p 0 3) (by decide)
    obtain ⟨low', high'⟩ := clamp_range (lo := 1) (hi := Config.grantTop) (field p 3 2) (by decide)
    simp only
    omega
  · cases h

theorem StockInv.congr {j : Issue} (h : StockInv i) (blocks : j.blocks = i.blocks) (journal : j.journal = i.journal)
    (sequence : j.sequence = i.sequence) : StockInv j := by
  constructor
  · rw [blocks]; exact h.blockCount
  · rw [blocks]; exact h.blockRange
  · rw [blocks]; exact h.apart
  · rw [blocks, journal]; exact h.unissued
  · rw [journal]; exact h.serials
  · rw [journal]; exact h.size
  · rw [journal, sequence]; exact h.counter
  · rw [journal, sequence]; exact h.rising

theorem Issue.reset_stock : StockInv Issue.reset :=
  ⟨by decide, nofun, .nil, nofun, .nil, by decide, by decide, rfl⟩

end Stock

end Sys2Proof.Machine

/-! The drain of the journal, and the stock with it (O55), through every step. -/

namespace Sys2Proof.Machine

-- One theorem at a time: the whole text is checked in one process.
set_option Elab.async false

section Drain

variable {s t : State}

/-- The drain speaks of the journal, the counter, the cursor, the highest sent, the frame and the acknowledgement timer. -/
theorem DrainInv.congr (h : DrainInv s) (drain : SameDrain s.line t.line) (journal : t.issue.journal = s.issue.journal)
    (sequence : t.issue.sequence = s.issue.sequence) : DrainInv t := by
  refine ⟨?_, ?_, fun f hf n hn => ?_, ?_⟩
  · rw [drain.cursor, journal]; exact h.cursor
  · rw [drain.highest, sequence]; exact h.highest
  · obtain ⟨g, hg, hfg⟩ := drain.frame f hf
    rw [sequence]
    exact h.onLine g hg n (hfg.symm.trans hn)
  · rw [drain.timer, journal, drain.highest]; exact h.timer

theorem DrainInv.quiet (h : DrainInv s) (q : Quiet s t) : DrainInv t := h.congr q.line.drain q.journal q.sequence

theorem StockInv.quiet (h : StockInv s.issue) (q : Quiet s t) : StockInv t.issue := h.congr q.blocks q.journal q.sequence

/-! ## Commits, acknowledgements and grants -/

theorem anySent_iff {journal : List Ticket} {highest : Nat} :
    anySent journal highest = true ↔ ∃ t ∈ journal, t.sequence ≤ highest := by
  simp [anySent]

theorem commitRefusal_none {x : Sale} (hx : s.issue.sale = some x) (h : commitRefusal s = none) :
    journalFull s.issue = false ∧ remaining s.issue.blocks ≠ 0 := by
  unfold commitRefusal at h
  rw [hx] at h
  dsimp only at h
  split at h
  · cases h
  · split at h
    · cases h
    next hf =>
      split at h
      · cases h
      next hr => exact ⟨by simpa using hf, hr⟩

/-- The record of a COMMIT joins the journal; a cursor at its end names the record (R98, R138). -/
theorem DrainInv.append (h : DrainInv s) {x : Ticket} (sequence : s.issue.sequence ≤ x.sequence) :
    DrainInv (appendTicket x s) := by
  refine ⟨fun n hn => ?_, h.highest.trans sequence, fun f hf n hn => (h.onLine f hf n hn).trans sequence, fun ht => ?_⟩
  · cases hc : s.line.cursor with
    | none =>
      simp only [appendTicket, hc, Option.none_or, Option.mem_some_iff] at hn
      exact ⟨x, List.mem_append_right _ List.mem_cons_self, hn⟩
    | some m =>
      simp only [appendTicket, hc, Option.some_or, Option.mem_some_iff] at hn
      obtain ⟨y, hy, hym⟩ := h.cursor m hc
      exact ⟨y, List.mem_append_left _ hy, hym.trans hn⟩
  · obtain ⟨y, hy, hyh⟩ := anySent_iff.1 (h.timer ht)
    exact anySent_iff.2 ⟨y, List.mem_append_left _ hy, hyh⟩

theorem StockInv.commit (h : StockInv s.issue) {x : Sale} (hx : s.issue.sale = some x) (hr : commitRefusal s = none)
    (payment : Nat) : StockInv (appendTicket (newTicket s x payment) s).issue := by
  obtain ⟨room, stock⟩ := commitRefusal_none hx hr
  exact h.committed room stock rfl rfl

theorem cursorAfterRemoval_mem {kept : List Ticket} {cursor : Option Nat} {n : Nat} (h : n ∈ cursorAfterRemoval kept cursor) :
    ∃ t ∈ kept, t.sequence = n := by
  obtain ⟨m, -, hm⟩ := Option.bind_eq_some_iff.1 h
  split at hm
  next hk =>
    cases hm
    simpa using hk
  next =>
    obtain ⟨t, ht, rfl⟩ := Option.map_eq_some_iff.1 hm
    exact ⟨t, List.mem_of_mem_head? ht, rfl⟩

/-- Records up to a number leave the journal (R141). -/
theorem DrainInv.removed (h : DrainInv s) (kept : List Ticket) : DrainInv { s with
      issue := { s.issue with journal := kept }
      line := { s.line with
        cursor := cursorAfterRemoval kept s.line.cursor
        saleAckTimer := if anySent kept s.line.highestSent then s.line.saleAckTimer else none } } := by
  refine ⟨fun n hn => cursorAfterRemoval_mem hn, h.highest, h.onLine, fun ht => ?_⟩
  dsimp only at ht ⊢
  split at ht
  next hs => exact hs
  next => cases ht

theorem takeSaleAck_stock (h : StockInv s.issue) (n : Nat) : StockInv (takeSaleAck n s).issue := by
  unfold takeSaleAck
  split
  · exact h
  · split
    · exact h
    · exact h.removed _

theorem takeSaleAck_drain (h : DrainInv s) (n : Nat) : DrainInv (takeSaleAck n s) := by
  unfold takeSaleAck
  split
  · exact h
  · split
    · exact h
    · exact h.removed _

theorem takeGrant_stock (h : StockInv s.issue) {p : List Byte} {f : Nat × Nat} (hf : readGrant p = some f) :
    StockInv (takeGrant f s).issue := by
  obtain ⟨low, some, most, high⟩ := readGrant_range hf
  refine StockInv.quiet ?_ (offerReply_quiet _ _ _ _)
  split
  next accepted => exact h.granted low some most high accepted
  next => exact h

theorem takeGrant_drain (h : DrainInv s) (f : Nat × Nat) : DrainInv (takeGrant f s) := by
  refine DrainInv.quiet ?_ (offerReply_quiet _ _ _ _)
  split
  · exact h.congr (.refl _) rfl rfl
  · exact h

/-! ## The full reset -/

theorem endReset_stock (straps : BitVec 4) (dark : s.line.link = .dark) (h : StockInv s.issue) :
    StockInv (endReset straps s).issue := by
  obtain ⟨blocks, journal, sequence⟩ := (endReset_same (k := {}) straps dark).stock.resolve_left nofun
  exact h.congr blocks journal sequence

theorem endReset_drain (straps : BitVec 4) (dark : s.line.link = .dark) (h : DrainInv s) : DrainInv (endReset straps s) := by
  have same := endReset_same (k := {}) straps dark
  obtain ⟨-, journal, sequence⟩ := same.stock.resolve_left nofun
  exact h.congr (same.drain.resolve_left nofun) journal sequence

theorem coldStart_drain (pins : ResetPins) (s : State) : DrainInv (coldStart pins s) :=
  ⟨(fun n hn => by cases hn), Nat.zero_le _, (fun f hf => by cases hf), nofun⟩

/-- After a warm start the drain is at the head of the journal, nothing of which counts as sent (R138). -/
theorem warmStart_drain (pins : ResetPins) (h : StockInv s.issue) : DrainInv (warmStart pins s) := by
  refine ⟨fun n hn => ?_, ?_, (fun f hf => by cases hf), nofun⟩
  · obtain ⟨t, ht, rfl⟩ := Option.map_eq_some_iff.1 hn
    exact ⟨t, List.mem_of_mem_head? ht, rfl⟩
  · change warmHighest s.issue ≤ s.issue.sequence
    unfold warmHighest
    split
    next t _ hj =>
      have := h.sequence_le (t := t) (by rw [hj]; exact List.mem_cons_self)
      omega
    next => exact le_refl _

theorem fullReset_stock (pins : ResetPins) (h : StockInv s.issue) :
    Answers (fun t => StockInv t.issue ∧ DrainInv t) (execFullReset pins s) := by
  refine answers_ite (fun _ => answers_next.2 ?_) fun _ => answers_next.2 ?_
  · exact ⟨endReset_stock _ rfl Issue.reset_stock, endReset_drain _ rfl (coldStart_drain pins s)⟩
  · obtain ⟨same, link⟩ := warmActions_same (k := { clock := true, platform := true }) rfl rfl (warmStart pins s)
    obtain ⟨blocks, journal, sequence⟩ := same.stock.resolve_left nofun
    have stock : StockInv (warmStart pins s).issue := h.congr rfl rfl rfl
    exact ⟨endReset_stock _ link (stock.congr blocks journal sequence), endReset_drain _ link
      ((warmStart_drain pins h).congr (same.drain.resolve_left nofun) journal sequence)⟩

/-! ## Every command -/

theorem message_sales {α : Type} {d : DownKind} {read : List Byte → Option α} {carryOut : α → State → State} {addr : Byte}
    {p : List Byte} {P : State → Prop} (h : P s) (same : ∀ t u, SameBut {} t u → P t → P u)
    (carried : ∀ v t, read p = some v → P t → P (carryOut v t)) : P (onMessage d read carryOut addr p s) :=
  onMessage_keeps (same _ _ (frameDone_same s)) (fun t => same _ _ (onMalformed_same d t)) carried h

theorem same_stock {k : Touched} (calm : k.stock = false) (same : SameBut k s t) (h : StockInv s.issue) : StockInv t.issue := by
  obtain ⟨blocks, journal, sequence⟩ := same.stock.resolve_left (by simp [calm])
  exact h.congr blocks journal sequence

theorem same_drain {k : Touched} (calm : k.stock = false) (dry : k.drain = false) (same : SameBut k s t) (h : DrainInv s) :
    DrainInv t := by
  obtain ⟨-, journal, sequence⟩ := same.stock.resolve_left (by simp [calm])
  exact h.congr (same.drain.resolve_left (by simp [dry])) journal sequence

/-- Every command that changes the stock or the journal keeps them sound. -/
theorem exec_stock {c : Instr} (touches : (touched c).stock = true) (h : StockInv s.issue) :
    Answers (fun t => StockInv t.issue) (exec c s) := by
  cases c with
  | fullReset pins => exact (fullReset_stock pins h).imp fun _ => And.left
  | commit port req =>
    refine answers_next.2 (onRequest_keeps (P := fun t => StockInv t.issue) (fun t q hq ht => ht.quiet (setPort_quiet t port q hq))
      (fun n t ht => ?_) h)
    unfold carryCommit
    split
    next hr hx => exact (ht.commit hx hr n).quiet ((commitSale_quiet _ _ t).trans (answer_quiet _ _ _))
    · exact ht.quiet (refuse_quiet _ _ t)
    · exact ht.quiet (refuse_quiet _ _ t)
  | saleAck => exact answers_next.2 (message_sales (P := fun t => StockInv t.issue) h (fun _ _ => same_stock rfl)
      fun n _ _ ht => takeSaleAck_stock ht n)
  | serialGrant => exact answers_next.2 (message_sales (P := fun t => StockInv t.issue) h (fun _ _ => same_stock rfl)
      fun _ _ hf ht => takeGrant_stock ht hf)
  | _ => cases touches

/-- A SALE frame sent whole: its record is the highest sent, and the cursor moves on (R139). -/
theorem saleSent_drain (h : DrainInv s) {n : Nat} (hn : n ≤ s.issue.sequence) : DrainInv (saleSent n s) := by
  refine ⟨fun m hm => ?_, max_le h.highest hn, h.onLine, fun ht => ?_⟩
  · unfold saleSent at hm
    dsimp only at hm
    split at hm
    · unfold cursorAfter at hm
      split at hm
      next hj =>
        cases hm
        simpa using hj
      next => cases hm
    · exact h.cursor m hm
  · unfold saleSent at ht ⊢
    dsimp only at ht ⊢
    split at ht
    next hs => exact hs
    next => cases ht

theorem frameSent_drain (h : DrainInv s) {f : TxFrame} (htx : s.line.tx = some f) :
    DrainInv (sourceSent f (raiseThreshold f.source s)) := by
  have raised : DrainInv (raiseThreshold f.source s) := ⟨h.cursor, h.highest, (fun g hg => by cases hg), h.timer⟩
  cases hs : f.source with
  | join =>
    unfold sourceSent
    rw [hs]
    rw [hs] at raised
    exact raised.congr ⟨rfl, rfl, rfl, fun f hf => ⟨f, hf, rfl⟩⟩ rfl rfl
  | sale n =>
    unfold sourceSent
    rw [hs]
    rw [hs] at raised
    exact saleSent_drain raised (h.onLine f htx n hs)
  | urgentItem i =>
    have same := sourceSent_same (k := {}) (s := raiseThreshold f.source s) (f := f) (fun n hn => by rw [hs] at hn; cases hn)
      fun hj => by rw [hs] at hj; cases hj
    rw [hs] at same raised
    exact same_drain rfl rfl same raised
  | routineItem i =>
    have same := sourceSent_same (k := {}) (s := raiseThreshold f.source s) (f := f) (fun n hn => by rw [hs] at hn; cases hn)
      fun hj => by rw [hs] at hj; cases hj
    rw [hs] at same raised
    exact same_drain rfl rfl same raised

/-- A SALE frame starts on the record that the cursor names (R115, R139). -/
theorem nextSource_sale {l : Line} {n : Nat} (h : nextSource l = some (.sale n)) : l.cursor = some n := by
  unfold nextSource at h
  split at h
  · split at h <;> cases h
  · split at h
    · split at h <;> cases h
    · split at h
      · split at h
        · cases h
        next hc =>
          split at h <;> cases h
          exact hc
        next hc =>
          cases h
          exact hc
        · cases h
      · cases h
  all_goals cases h

theorem upwardFrameStart_drain (stock : StockInv s.issue) (h : DrainInv s) : Answers DrainInv (execUpwardFrameStart s) := by
  unfold execUpwardFrameStart
  split
  next src _ hsrc =>
    refine answers_next.2 ⟨h.cursor, h.highest, fun f hf n hn => ?_, h.timer⟩
    obtain rfl := Option.some.inj hf
    rw [show src = .sale n from hn] at hsrc
    obtain ⟨t, ht, rfl⟩ := h.cursor n (nextSource_sale hsrc)
    exact stock.sequence_le ht
  next => exact answers_next.2 h

/-- Every command that changes the drain or the journal keeps the drain sound. -/
theorem exec_drain {c : Instr} (touches : (touched c).stock = true ∨ (touched c).drain = true) (stock : StockInv s.issue)
    (h : DrainInv s) : Answers DrainInv (exec c s) := by
  cases c with
  | fullReset pins => exact (fullReset_stock pins stock).imp fun _ => And.right
  | commit port req =>
    refine answers_next.2 (onRequest_keeps (P := DrainInv) (fun t q hq ht => ht.quiet (setPort_quiet t port q hq))
      (fun n t ht => ?_) h)
    unfold carryCommit
    split
    · exact (ht.append (Nat.le_succ _)).quiet ((commitSale_quiet _ _ t).trans (answer_quiet _ _ _))
    · exact ht.quiet (refuse_quiet _ _ t)
    · exact ht.quiet (refuse_quiet _ _ t)
  | saleAck => exact answers_next.2 (message_sales h (fun _ _ => same_drain rfl rfl) fun n _ _ ht => takeSaleAck_drain ht n)
  | serialGrant => exact answers_next.2 (message_sales h (fun _ _ => same_drain rfl rfl) fun f _ _ ht => takeGrant_drain ht f)
  | upwardFrameStart => exact upwardFrameStart_drain stock h
  | frameComplete =>
    show Answers DrainInv (execFrameComplete s)
    unfold execFrameComplete
    split
    next f htx => exact answers_guard (fun _ => frameSent_drain h htx) h
    next => exact answers_next.2 h
  | ackTimerExpiry =>
    refine answers_guard (fun _ => ⟨fun n hn => ?_, h.highest, h.onLine, nofun⟩) h
    obtain ⟨t, ht, rfl⟩ := Option.map_eq_some_iff.1 hn
    exact ⟨t, List.mem_of_mem_head? ht, rfl⟩
  | _ => rcases touches with e | e <;> cases e

end Drain

/-- Settles O55: a command that changes neither the journal nor the drain keeps both (`exec_touches`), and so does every
other (`exec_stock`, `exec_drain`). -/
theorem stockAndDrainKept : Obligations.StockAndDrainKept := by
  unfold Obligations.StockAndDrainKept
  intro s t h stock
  have stockKept : ∀ (c : Instr) (u : State), StockInv u.issue → Answers (fun v => StockInv v.issue) (exec c u) := by
    intro c u hu
    cases hc : (touched c).stock with
    | true => exact exec_stock hc hu
    | false => exact (exec_touches c u).imp fun _ same => same_stock hc same hu
  refine ⟨step_keeps_of_answers (P := fun u => StockInv u.issue) (fun _ _ => id) stockKept h stock, fun drain => ?_⟩
  refine (step_keeps_of_answers (P := fun u => StockInv u.issue ∧ DrainInv u) (fun u q hu => ?_) (fun c u hu => ?_) h
    ⟨stock, drain⟩).2
  · exact ⟨hu.1, hu.2.congr (.refl _) rfl rfl⟩
  · obtain ⟨v, hv, stock'⟩ := stockKept c u hu.1
    refine ⟨v, hv, stock', ?_⟩
    cases hs : (touched c).stock with
    | true => exact (exec_drain (.inl hs) hu.1 hu.2).of_next hv
    | false =>
      cases hd : (touched c).drain with
      | true => exact (exec_drain (.inr hd) hu.1 hu.2).of_next hv
      | false => exact ((exec_touches c u).imp fun _ same => same_drain hs hd same hu.2).of_next hv

end Sys2Proof.Machine

/-! The time base, the halt parameters and the fare table (O56) through every step. -/

namespace Sys2Proof.Machine

-- One theorem at a time: the whole text is checked in one process.
set_option Elab.async false

section Clock

variable {s t : State} {c : Clock}

/-! ## The time base -/

/-- The fields the invariant does not speak of are free, and so is the time of day within its range. -/
theorem ClockInv.retime (h : ClockInv c) {d : Clock} (time : d.time.InRange) (marker : d.setMarker = c.setMarker := by rfl)
    (state : d.timeState = c.timeState := by rfl) (slew : d.slew ≤ 14400 := by exact Nat.zero_le _)
    (disputes : d.disputes = c.disputes := by rfl) (holdover : d.holdover.isSome = c.holdover.isSome := by rfl)
    (owed : d.owed = c.owed := by rfl) : ClockInv d :=
  ⟨time, by rw [marker, state]; exact h.marker, slew, by rw [disputes]; exact h.disputes,
    by rw [holdover, state]; exact h.holdover, owed.trans h.owed⟩

/-- A clock that is locked, with the holdover timer started (R52, R55). -/
def Clock.lock (c : Clock) : Clock := { c with timeState := .locked, setMarker := true, holdover := some Config.holdover }

theorem lock_clock (s : State) : (lock s).clock = s.clock.lock := by
  unfold lock
  dsimp only
  split
  · rfl
  · simp [Clock.lock]

theorem Clock.lock_inv (time : c.time.InRange) (slew : c.slew ≤ 14400) (disputes : c.disputes ≤ 255) (owed : c.owed = false) :
    ClockInv c.lock :=
  ⟨time, rfl, slew, disputes, rfl, owed⟩

theorem tickClock_inv (h : ClockInv c) : ClockInv (tickClock c) := by
  unfold tickClock
  split
  · exact h.retime (TimeOfDay.ofTicks_inRange _) (slew := h.slew)
  · exact h.retime h.time (slew := (Nat.sub_le ..).trans h.slew)

theorem quiet_clock (q : Quiet s t) (h : ClockInv s.clock) : ClockInv t.clock := by
  rw [q.clock]
  exact h

theorem same_clock {k : Touched} (calm : k.clock = false) (same : SameBut k s t) (h : ClockInv s.clock) :
    ClockInv t.clock := by
  rw [same.clock.resolve_left (by simp [calm])]
  exact h

theorem raiseRollover_clock (s : State) : (raiseRollover s).clock = { s.clock with day := s.clock.day + 1 } :=
  (newDay_same (k := { platform := true }) rfl _).clock.resolve_left nofun

theorem crystalStep_clock (h : ClockInv s.clock) : ClockInv (crystalStep s).clock := by
  have counted : ClockInv { s.clock with holdover := countDown s.clock.holdover, crystal := s.clock.crystal + 1 } :=
    h.retime h.time (slew := h.slew) (holdover := countDown_isSome _)
  have ticked := tickClock_inv counted
  unfold crystalStep
  dsimp only
  split
  · refine quiet_clock (rebuild_quiet _) ?_
    rw [raiseRollover_clock]
    exact ticked.retime ticked.time (slew := ticked.slew)
  · exact ticked

theorem afterCorrection_clock (b : BeaconFields) (l : TimeOfDay) (stepped : Bool) (h : ClockInv s.clock) :
    ClockInv (afterCorrection b l stepped s).clock := by
  have locked : ClockInv (lock (adoptDay b l s)).clock := by
    rw [lock_clock]
    exact Clock.lock_inv h.time h.slew h.disputes h.owed
  unfold afterCorrection
  dsimp only
  split
  · exact quiet_clock ((evaluateAll_quiet _).trans (rebuild_quiet _)) locked
  · split
    · exact quiet_clock (rebuild_quiet _) locked
    · exact locked

theorem stepForward_clock (n : Nat) (h : ClockInv s.clock) : ClockInv (stepForward n s).clock := by
  have stepped : ClockInv { disturb s.clock with
      time := TimeOfDay.ofTicks (s.clock.time.ticks + n), slew := 0, slewHalf := false } :=
    h.retime (TimeOfDay.ofTicks_inRange _)
  unfold stepForward
  dsimp only
  split
  · rw [raiseRollover_clock]
    exact stepped.retime stepped.time
  · exact stepped

theorem measureBeacon_clock (b : BeaconFields) (h : ClockInv s.clock) : ClockInv (measureBeacon b s).clock := by
  unfold measureBeacon
  dsimp only
  split
  · refine quiet_clock (statusCause_quiet _) ?_
    exact ⟨h.time, h.marker, h.slew, satSucc_le .., h.holdover, h.owed⟩
  next within =>
    rw [Bool.or_eq_true, decide_eq_true_eq, decide_eq_true_eq] at within
    split
    · exact afterCorrection_clock _ _ _ (stepForward_clock _ h)
    · split
      · refine afterCorrection_clock _ _ _ (h.retime h.time (slew := ?_))
        simp only [startSlew]
        omega
      · exact afterCorrection_clock _ _ _ (h.retime h.time)

theorem takeBeacon_clock (b : BeaconFields) (h : ClockInv s.clock) : ClockInv (takeBeacon b s).clock := by
  have stored : ClockInv (storeCondition b (beaconLink s)).clock :=
    same_clock (k := {}) rfl ((beaconLink_same s).trans (storeCondition_same b _)) h
  have free : ∀ {c : Clock}, ClockInv c → ClockInv { c with frameStart := none } := fun h => h.retime h.time (slew := h.slew)
  unfold takeBeacon beaconTime
  generalize storeCondition b (beaconLink s) = u at stored
  dsimp only
  refine free ?_
  split
  · exact stored
  · split
    · refine quiet_clock ((recomputeAll_quiet _).trans (rebuild_quiet _)) ?_
      rw [lock_clock]
      exact Clock.lock_inv (TimeOfDay.ofTicks_inRange _) (Nat.zero_le _) stored.disputes stored.owed
    · exact measureBeacon_clock b stored

theorem takeSetTime_clock {p : List Byte} {f : Nat × BitVec 16} (hf : readSetTime p = some f) (h : ClockInv s.clock) :
    ClockInv (takeSetTime f s).clock := by
  have low : f.1 ≤ Config.lastSecond := by
    simp only [readSetTime, ofLength] at hf
    split at hf
    · cases hf
      exact (clamp_range _ (Nat.zero_le _)).2
    · cases hf
  unfold takeSetTime
  split
  · refine quiet_clock (((mapActive_quiet _ _).trans (evaluateAll_quiet _)).trans
      ((rebuild_quiet _).trans (offerReply_quiet _ _ _ _))) ?_
    rw [lock_clock]
    exact Clock.lock_inv ⟨low, Nat.zero_le _⟩ (Nat.zero_le _) h.disputes h.owed
  · exact quiet_clock (offerReply_quiet _ _ _ s) h

/-- After a warm start the rollover that was owed has been carried out (R65). -/
theorem owedRollover_clock (s : State) : (owedRollover s).clock = { s.clock with owed := false } := by
  unfold owedRollover
  split
  · exact (newDay_same (k := { platform := true }) rfl _).clock.resolve_left nofun
  next ho =>
    rw [Bool.not_eq_true] at ho
    rw [← ho]

theorem warmActions_clock (s : State) : (warmActions s).clock = { s.clock with owed := false } := by
  unfold warmActions heldOverDeparture
  split
  · rw [(reportDeparture_quiet _ _ _).clock, (warmCalls_quiet _).clock, owedRollover_clock]
  · rw [(warmCalls_quiet _).clock, owedRollover_clock]

theorem endReset_clock (straps : BitVec 4) (dark : s.line.link = .dark) : (endReset straps s).clock = s.clock :=
  (endReset_same (k := {}) straps dark).clock.resolve_left nofun

theorem fullReset_clock (pins : ResetPins) (s : State) : Answers (fun t => ClockInv t.clock) (execFullReset pins s) := by
  refine answers_ite (fun _ => answers_next.2 ?_) fun _ => answers_next.2 ?_
  · rw [endReset_clock _ rfl]
    exact ⟨⟨Nat.zero_le _, Nat.zero_le _⟩, rfl, Nat.zero_le _, Nat.zero_le _, rfl, rfl⟩
  · have link := (warmActions_same (k := everyPart) rfl rfl (warmStart pins s)).2
    rw [endReset_clock _ link, warmActions_clock]
    refine ⟨TimeOfDay.ofTicks_inRange _, ?_, Nat.zero_le _, Nat.zero_le _, ?_, rfl⟩ <;>
      simp only [warmStart, warmClock] <;> split <;> simp_all

/-- Every command that changes the time base keeps it sound. -/
theorem exec_clock {c : Instr} (touches : (touched c).clock = true) (h : ClockInv s.clock) :
    Answers (fun t => ClockInv t.clock) (exec c s) := by
  cases c with
  | fullReset pins => exact fullReset_clock pins s
  | vbakLow => exact answers_next.2 (h.retime h.time (slew := h.slew))
  | crystalTick => exact answers_next.2 (crystalStep_clock h)
  | rollover => exact answers_guard (fun _ => crystalStep_clock h) h
  | downwardFrameStart => exact answers_guard (fun _ => h.retime h.time (slew := h.slew)) h
  | symbolPeriodEnd =>
    refine answers_next.2 ?_
    dsimp only
    split
    · exact h.retime h.time (slew := h.slew)
    · exact h
  | beacon => exact answers_next.2 (message_sales (P := fun t => ClockInv t.clock) h (fun _ _ => same_clock rfl)
      fun b _ _ ht => takeBeacon_clock b ht)
  | setTime => exact answers_next.2 (message_sales (P := fun t => ClockInv t.clock) h (fun _ _ => same_clock rfl)
      fun _ _ hf ht => takeSetTime_clock hf ht)
  | holdoverExpiry =>
    refine answers_guard (fun hg => quiet_clock ((latchTimeState_quiet _).trans (rebuild_quiet _)) ?_) h
    rw [Bool.and_eq_true, decide_eq_true_eq] at hg
    have marker := h.marker
    rw [hg.1] at marker
    exact ⟨h.time, marker, h.slew, h.disputes, rfl, h.owed⟩
  | _ => cases touches

end Clock

section Stores

variable {s : State}

/-! ## The halt parameters -/

theorem ascending_spec (low : Nat) (l : List Nat) : (ascending low l).length = l.length ∧
    (∀ x ∈ ascending low l, low ≤ x) ∧ (ascending low l).Pairwise (· ≤ ·) ∧
    ∀ top, low ≤ top → (∀ x ∈ l, x ≤ top) → ∀ x ∈ ascending low l, x ≤ top := by
  induction l generalizing low with
  | nil => exact ⟨rfl, nofun, .nil, fun _ _ _ => nofun⟩
  | cons t ts ih =>
    obtain ⟨length, above, sorted, below⟩ := ih (max low t)
    refine ⟨by simp [ascending, length], fun x hx => ?_, List.pairwise_cons.2 ⟨above, sorted⟩, fun top hlow hall x hx => ?_⟩
    · rcases List.mem_cons.1 hx with rfl | hx
      · exact le_max_left ..
      · exact (le_max_left ..).trans (above x hx)
    · have ht := max_le hlow (hall t List.mem_cons_self)
      rcases List.mem_cons.1 hx with rfl | hx
      · exact ht
      · exact below top ht (fun y hy => hall y (List.mem_cons_of_mem _ hy)) x hx

theorem length_fields (p : List Byte) (w off n : Nat) : (fields p w off n).length = n := by
  induction n generalizing off with
  | zero => rfl
  | succ n ih => rw [fields, List.length_cons, ih]

/-- The parameters of a LOAD_PARAMS are in range (R144, R145). -/
theorem readParams_inRange {p : List Byte} {v : Params} (h : readParams p = some v) : v.InRange := by
  have clamped : ∀ (top : Nat) (l : List Nat), ∀ x ∈ l.map (clamp 0 top), x ≤ top := fun top l x hx => by
    obtain ⟨y, -, rfl⟩ := List.mem_map.1 hx
    exact (clamp_range y (Nat.zero_le _)).2
  simp only [readParams, ofLength] at h
  split at h
  · cases h
    obtain ⟨length, -, sorted, below⟩ := ascending_spec 0 ((fields p 2 17 7).map (clamp 0 65535))
    exact ⟨(clamp_range _ (Nat.zero_le _)).2, clamp_range _ (by decide), clamp_range _ (by decide), clamp_range _ (by decide),
      clamp_range _ (by decide), (clamp_range _ (Nat.zero_le _)).2, clamp_range _ (by decide), clamp_range _ (by decide),
      clamp_range _ (by decide), clamp_range _ (by decide), clamp_range _ (by decide),
      ⟨by rw [length, List.length_map, length_fields], sorted, below _ (Nat.zero_le _) (clamped _ _)⟩,
      ⟨by rw [List.length_map, length_fields], clamped _ _⟩⟩
  · cases h

theorem Params.defaults_inRange : Params.defaults.InRange := by
  constructor <;> decide

theorem takeParams_params (p : Params) (s : State) : (takeParams p s).line.params = p := by
  unfold takeParams
  rw [((rebuild_quiet _).trans (offerReply_quiet _ _ _ _)).params]
  exact (recomputeAll_quiet { s with line := { s.line with params := p } }).params

theorem exec_params {c : Instr} (touches : (touched c).params = true) (h : s.line.params.InRange) :
    Answers (fun t => t.line.params.InRange) (exec c s) := by
  cases c with
  | fullReset pins =>
    refine answers_ite (fun _ => answers_next.2 ?_) fun _ => answers_next.2 ?_
    · rw [(endReset_same (k := {}) _ rfl).params.resolve_left nofun]
      exact Params.defaults_inRange
    · obtain ⟨same, link⟩ := warmActions_same (k := { clock := true, platform := true }) rfl rfl (warmStart pins s)
      rw [(endReset_same (k := {}) _ link).params.resolve_left nofun, same.params.resolve_left nofun]
      exact h
  | loadParams =>
    refine answers_next.2 (message_sales (P := fun t => t.line.params.InRange) h (fun t u same ht => ?_) fun p t hp _ => ?_)
    · rw [same.params.resolve_left nofun]
      exact ht
    · rw [takeParams_params]
      exact readParams_inRange hp
  | _ => cases touches

/-! ## The fare table -/

theorem mem_putDest {e x : Nat × Nat} {l : List (Nat × Nat)} (h : x ∈ putDest e l) : x = e ∨ x ∈ l := by
  induction l with
  | nil => exact .inl (List.mem_singleton.1 h)
  | cons q qs ih =>
    unfold putDest at h
    split at h
    · exact (List.mem_cons.1 h).imp id id
    · split at h
      · exact (List.mem_cons.1 h).imp id (List.mem_cons_of_mem _)
      · rcases List.mem_cons.1 h with rfl | h
        · exact .inr List.mem_cons_self
        · exact (ih h).imp id (List.mem_cons_of_mem _)

theorem putDest_sorted {e : Nat × Nat} {l : List (Nat × Nat)} (h : l.Pairwise fun d e => d.1 < e.1) :
    (putDest e l).Pairwise fun d e => d.1 < e.1 := by
  induction l with
  | nil => exact List.pairwise_singleton _ _
  | cons q qs ih =>
    obtain ⟨first, rest⟩ := List.pairwise_cons.1 h
    unfold putDest
    split
    next hlt =>
      refine List.pairwise_cons.2 ⟨fun d hd => ?_, h⟩
      rcases List.mem_cons.1 hd with rfl | hd
      · exact hlt
      · exact hlt.trans (first d hd)
    next hlt =>
      split
      next heq => exact List.pairwise_cons.2 ⟨fun d hd => heq ▸ first d hd, rest⟩
      next hne =>
        refine List.pairwise_cons.2 ⟨fun d hd => ?_, ih rest⟩
        rcases mem_putDest hd with rfl | hd
        · omega
        · exact first d hd

/-- An entry takes the place of that of its code, or joins the list (R67). -/
theorem length_putDest (e : Nat × Nat) {l : List (Nat × Nat)} (h : l.Pairwise fun d e => d.1 < e.1) :
    (putDest e l).length = if (zoneOf l e.1).isSome then l.length else l.length + 1 := by
  induction l with
  | nil => rfl
  | cons q qs ih =>
    obtain ⟨first, rest⟩ := List.pairwise_cons.1 h
    unfold putDest zoneOf
    split
    next hlt =>
      have none : (q :: qs).find? (fun x => x.1 = e.1) = none := by
        refine List.find?_eq_none.2 fun x hx => ?_
        rcases List.mem_cons.1 hx with rfl | hx
        · simp only [decide_eq_true_eq]
          omega
        · have := first x hx
          simp only [decide_eq_true_eq]
          omega
      rw [none]
      rfl
    next =>
      split
      next heq => simp [heq.symm]
      next hne =>
        have := ih rest
        unfold zoneOf at this
        have hq : ¬ q.1 = e.1 := fun hq => hne hq.symm
        rw [List.find?_cons_of_neg (by simpa using hq), List.length_cons, this, List.length_cons]
        split <;> rfl

theorem FareInv.loadDest {f : FareTable} (h : FareInv f) {code zones : Nat} (hc : 1 ≤ code ∧ code ≤ 999) (hz : zones ≤ 12)
    (room : zones = 0 ∨ (zoneOf f.dests code).isSome = true ∨ f.dests.length < Config.fareDestinations) :
    FareInv { f with dests := loadDest code zones f.dests } := by
  unfold Machine.loadDest
  split
  · exact ⟨h.sorted.sublist List.filter_sublist, (List.filter_sublist.length_le).trans h.size,
      fun d hd => h.dests d (List.filter_sublist.mem hd), h.prices, h.percentages, h.peak, h.slots, h.concessions⟩
  next hne =>
    refine ⟨putDest_sorted h.sorted, ?_, fun d hd => ?_, h.prices, h.percentages, h.peak, h.slots, h.concessions⟩
    · dsimp only
      rw [length_putDest (code, zones) h.sorted]
      split
      · exact h.size
      next hn => exact (room.resolve_left hne).resolve_left hn
    · rcases mem_putDest hd with rfl | hd
      · exact ⟨hc.1, hc.2, by simp only; omega, hz⟩
      · exact h.dests d hd

theorem readFareDest_range {p : List Byte} {f : Nat × Nat} (h : readFareDest p = some f) :
    (1 ≤ f.1 ∧ f.1 ≤ 999) ∧ f.2 ≤ 12 := by
  simp only [readFareDest, ofLength] at h
  split at h
  · cases h
    exact ⟨clamp_range _ (by decide), (clamp_range _ (Nat.zero_le _)).2⟩
  · cases h

theorem takeFareDest_inv (h : FareInv s.fares) {p : List Byte} {f : Nat × Nat} (hf : readFareDest p = some f) :
    FareInv (takeFareDest f s).fares := by
  unfold takeFareDest
  dsimp only
  rw [(offerReply_quiet _ _ _ _).fares]
  split
  next accepted =>
    obtain ⟨code, zones⟩ := readFareDest_range hf
    refine h.loadDest code zones ?_
    unfold fareDestOutcome at accepted
    split at accepted
    · cases accepted
    · split at accepted
      next room => simpa [or_assoc] using room
      · cases accepted
  · exact h

theorem takeFarePrice_inv (h : FareInv s.fares) {p : List Byte} {b : PriceBlock} (hb : readFarePrice p = some b) :
    FareInv (takeFarePrice b s).fares := by
  unfold takeFarePrice
  split
  · rw [(offerReply_quiet _ _ _ _).fares]
    simp only [readFarePrice, ofLength] at hb
    split at hb
    · cases hb
      refine ⟨h.sorted, h.size, h.dests, ⟨by rw [List.length_map, length_fields], fun z hz => ?_⟩, ?_,
        ⟨(clamp_range _ (Nat.zero_le _)).2, (clamp_range _ (Nat.zero_le _)).2⟩, h.slots, h.concessions⟩
      · obtain ⟨y, -, rfl⟩ := List.mem_map.1 hz
        exact (clamp_range y (Nat.zero_le _)).2
      · exact ⟨(clamp_range _ (by decide)).1, (clamp_range _ (by decide)).2, (clamp_range _ (Nat.zero_le _)).2⟩
    · cases hb
  · rw [(offerReply_quiet _ _ _ _).fares]
    exact h

theorem readConcession_range {p : List Byte} {f : ConcessionFields} (h : readConcession p = some f) :
    ∀ c ∈ f.slot, c.discount ≤ 100 ∧ c.minimum ≤ 2000 := by
  simp only [readConcession, ofLength] at h
  split at h
  · cases h
    intro c hc
    obtain ⟨d, -, rfl⟩ := Option.map_eq_some_iff.1 hc
    exact ⟨(clamp_range _ (Nat.zero_le _)).2, (clamp_range _ (Nat.zero_le _)).2⟩
  · cases h

theorem takeConcession_inv (h : FareInv s.fares) {p : List Byte} {f : ConcessionFields} (hf : readConcession p = some f) :
    FareInv (takeConcession f s).fares := by
  unfold takeConcession
  split
  · rw [(offerReply_quiet _ _ _ _).fares]
    exact h
  · split
    · rw [(offerReply_quiet _ _ _ _).fares]
      exact h
    next hc =>
      rw [(offerReply_quiet _ _ _ _).fares]
      refine ⟨h.sorted, h.size, h.dests, h.prices, h.percentages, h.peak, ⟨?_, ?_⟩, fun x hx => ?_⟩
      · rw [List.length_set]
        exact h.slots.1
      · rw [← h.slots.2, List.head?_eq_getElem?, List.head?_eq_getElem?, List.getElem?_set_ne hc]
      · rcases List.mem_or_eq_of_mem_set hx with hx | rfl
        · exact h.concessions x hx
        · exact readConcession_range hf

theorem FareTable.defaults_inv : FareInv FareTable.defaults := by
  constructor <;> decide

theorem exec_fares {c : Instr} (touches : (touched c).fares = true) (h : FareInv s.fares) :
    Answers (fun t => FareInv t.fares) (exec c s) := by
  have same : ∀ t u, SameBut {} t u → FareInv t.fares → FareInv u.fares := fun t u same ht => by
    rw [same.fares.resolve_left nofun]
    exact ht
  cases c with
  | fullReset pins =>
    refine answers_ite (fun _ => answers_next.2 ?_) fun _ => answers_next.2 ?_
    · rw [(endReset_same (k := {}) _ rfl).fares.resolve_left nofun]
      exact FareTable.defaults_inv
    · obtain ⟨same, link⟩ := warmActions_same (k := { clock := true, platform := true }) rfl rfl (warmStart pins s)
      rw [(endReset_same (k := {}) _ link).fares.resolve_left nofun, same.fares.resolve_left nofun]
      exact h
  | loadFareDest => exact answers_next.2 (message_sales (P := fun t => FareInv t.fares) h same
      fun _ _ hf ht => takeFareDest_inv ht hf)
  | loadFarePrice => exact answers_next.2 (message_sales (P := fun t => FareInv t.fares) h same
      fun _ _ hf ht => takeFarePrice_inv ht hf)
  | loadConcession => exact answers_next.2 (message_sales (P := fun t => FareInv t.fares) h same
      fun _ _ hf ht => takeConcession_inv ht hf)
  | _ => cases touches

end Stores

/-- Settles O56: of each store, a command that does not change it keeps it (`exec_touches`), and so does every other
(`exec_clock`, `exec_params`, `exec_fares`). -/
theorem storesKept : Obligations.StoresKept := by
  unfold Obligations.StoresKept
  intro s t h
  refine ⟨step_keeps_of_answers (P := fun s => ClockInv s.clock) (fun _ _ => id) (fun c s hs => ?_) h,
    step_keeps_of_answers (P := fun s => s.line.params.InRange) (fun _ _ => id) (fun c s hs => ?_) h,
    step_keeps_of_answers (P := fun s => FareInv s.fares) (fun _ _ => id) (fun c s hs => ?_) h⟩
  · cases hc : (touched c).clock with
    | true => exact exec_clock hc hs
    | false => exact (exec_touches c s).imp fun _ same => same_clock hc same hs
  · cases hc : (touched c).params with
    | true => exact exec_params hc hs
    | false =>
      refine (exec_touches c s).imp fun t same => ?_
      rw [same.params.resolve_left (by simp [hc])]
      exact hs
  · cases hc : (touched c).fares with
    | true => exact exec_fares hc hs
    | false =>
      refine (exec_touches c s).imp fun t same => ?_
      rw [same.fares.resolve_left (by simp [hc])]
      exact hs

end Sys2Proof.Machine


/-! The issue unit's timers and the RELEASE request (chapter 05), and what the screen sequencer does with its requests and
its timers (chapter 09). -/

namespace Sys2Proof.Machine

-- One theorem at a time: the whole text is checked in one process.
set_option Elab.async false

/-! ## The end of a sale -/

/-- The sale is removed, and an ASKED hold granted (R87, R88, R102). -/
theorem endSale_eq (s : State) : endSale s =
    if s.issue.hold = .asked then { s with
      issue := { s.issue with sale := none, hold := .held, limitTimer := some 9600 }
      line := s.line.enqueue s.line.classMap.hold .holdGranted
      vport := s.vport.latch 0x0004#16 }
    else { s with issue := { s.issue with sale := none } } := rfl

/-- The low-water test of a stock that is not low, or that has been asked for (R96). -/
theorem lowWater_none {s : State} (h : ¬ (remaining s.issue.blocks < 50 ∧ s.issue.askTimer = none)) :
    lowWater false s = s := by
  unfold lowWater
  rw [if_neg]
  simp only [Bool.false_or, Bool.and_eq_true, decide_eq_true_eq, Option.isNone_iff_eq_none]
  exact h

/-- The low-water test of a low stock that has not been asked for (R96). -/
theorem lowWater_asks {s : State} (h : remaining s.issue.blocks < 50) (ask : s.issue.askTimer = none) :
    lowWater false s = { s with
      issue := { s.issue with askTimer := some 4800 }
      line := s.line.enqueue s.line.classMap.serialAsk (.serialAsk (remaining s.issue.blocks))
      vport := s.vport.latch 0x0008#16 } := by
  unfold lowWater
  rw [if_pos (by simp [Config.lowWater, h, ask])]
  rfl

/-- Settles O36: each timer's command takes its first branch, and both ways a sale can end are `endSale`. -/
theorem saleAndHoldTimers : Obligations.SaleAndHoldTimers := by
  unfold Obligations.SaleAndHoldTimers
  refine ⟨fun s => ⟨fun port req ht hf => ?release, fun x hx hl => ?lapse⟩,
    fun s => ⟨fun hold timer => ?limit, fun ask high => ?high, fun ask low => ?low, fun timer => ?quote, fun timer => ?button⟩⟩
  case release =>
    have run : exec (.releaseRequest port req) s = .next (carryRelease port () (requestTaken port s)) :=
      congrArg Host.Outcome.next (onRequest_carried ht hf rfl)
    refine ⟨fun sale => ?_, fun sale => ?_⟩
    · rw [run, carryRelease, requestTaken_issue, if_pos sale]
      cases port <;> rfl
    · rw [run, carryRelease, requestTaken_issue, sale, ← respond_requestTaken]
      rfl
  case lapse =>
    have lapsed : (s.issue.sale.any fun x => x.lapse = 0) = true := by simp [hx, hl]
    refine (if_pos lapsed).trans (congrArg (fun t => Host.Outcome.next (evalDemand t)) ?_)
    exact endSale_eq { s with vport := s.vport.latch 0x0001#16 }
  case limit => exact if_pos (by simp [hold, timer])
  case high => exact (if_pos ask).trans (congrArg Host.Outcome.next (lowWater_none fun low => absurd low.1 (by simpa [remaining] using high)))
  case low => exact (if_pos ask).trans (congrArg Host.Outcome.next (lowWater_asks low rfl))
  case quote => exact if_pos timer
  case button => exact if_pos timer

/-! ## The requests of the signage port -/

@[simp] theorem requestTaken_screen (port : Port) (s : State) : (requestTaken port s).screen = s.screen := by
  cases port <;> rfl

theorem requestTaken_unmasked (s : State) : (requestTaken .signage s).sport.unmasked = s.sport.notices &&& ~~~s.sport.mask :=
  rfl

section Requests

variable {port : Port} {req : Request} {s : State} (ht : takesTransaction s port)
include ht

theorem exec_ready (hf : wellFramed .ready port req []) :
    exec (.ready port req) s = .next (carryReady port () (requestTaken port s)) :=
  congrArg Host.Outcome.next (onRequest_carried ht hf rfl)

theorem exec_screen {p : List Byte} {f : ScreenFields} (hf : wellFramed .screen port req p) (hr : readScreen p = some f) :
    exec (.screen port req) s = .next (carryScreen port f (requestTaken port s)) :=
  congrArg Host.Outcome.next (onRequest_carried ht hf hr)

theorem exec_quiet (hf : wellFramed .quiet port req []) :
    exec (.quiet port req) s = .next (carryQuiet port () (requestTaken port s)) :=
  congrArg Host.Outcome.next (onRequest_carried ht hf rfl)

end Requests

theorem readScreen_of_mode {p : List Byte} (hl : p.length = 2) (hm : field p 0 1 ≤ 2 ∨ field p 0 1 = 255) :
    readScreen p = some
      { mode := match field p 0 1 with
          | 0 => some .auto
          | 1 => some .on
          | 2 => some .off
          | _ => none
        trim := if field p 1 1 = 255 then none else some (max (-16) (min ((field p 1 1 : Int) - 128) 15)) } := by
  have trim : (optField p 1 1).map (fun v => clampInt (-16) 15 ((v : Int) - 128))
      = if field p 1 1 = 255 then none else some (max (-16) (min ((field p 1 1 : Int) - 128) 15)) := by
    rw [optField_octet]
    split <;> rfl
  rw [readScreen, if_pos hl, trim, readMode, optField_octet]
  have cases : field p 0 1 = 0 ∨ field p 0 1 = 1 ∨ field p 0 1 = 2 ∨ field p 0 1 = 255 := by omega
  rcases cases with h | h | h | h <;> rw [h] <;> rfl

/-- Settles O37: each request is carried out on the state its transaction leaves; READY and QUIET go by the supply state, and
SCREEN takes the trim and then the mode. -/
theorem signageRequests : Obligations.SignageRequests := by
  unfold Obligations.SignageRequests
  refine fun port req s ht => ⟨fun hf => ?ready, fun p _ hl hm => readScreen_of_mode hl hm, fun p f hf hr => ?screen, fun hf => ?quiet⟩
  case ready =>
    rw [exec_ready ht hf, carryReady, requestTaken_screen]
    refine ⟨fun supply => ?_, fun supply => ?_⟩
    · rw [if_pos supply]
      cases port <;> rfl
    · rw [if_neg supply, ← respond_requestTaken]
      rfl
  case screen =>
    rw [exec_screen ht hf hr]
    obtain ⟨mode, trim⟩ := f
    cases port <;> cases trim <;> cases mode <;> rfl
  case quiet =>
    have signage : port = .signage := by
      cases port with
      | vending => cases hf.2
      | signage => rfl
    subst signage
    rw [exec_quiet ht hf, carryQuiet, requestTaken_screen]
    refine ⟨fun supply => ?_, fun supply pending => ?_, fun supply clear => ?_⟩
    · rw [if_pos (by simpa using supply)]
      rfl
    · rw [if_neg (by simp [supply]), if_pos (by simpa [requestTaken_unmasked] using pending)]
      rfl
    · rw [if_neg (by simp [supply]), if_neg (by simpa [requestTaken_unmasked] using clear)]
      rfl

/-! ## The timers of the supply chain -/

/-- Settles O38: each timer's command takes its first branch. -/
theorem supplyTimers : Obligations.SupplyTimers := by
  unfold Obligations.SupplyTimers
  refine fun s => ⟨fun supply timer => ?ready, fun supply stage => ?lamp, fun supply stage => ?bias, fun supply timer => ?idle,
    fun supply timer => ?retry⟩
  case ready => exact if_pos (by simp [supply, timer])
  case lamp =>
    show execSettlingExpiry s = _
    simp only [execSettlingExpiry, supply, stage]
    rfl
  case bias =>
    show execSettlingExpiry s = _
    simp only [execSettlingExpiry, supply, stage]
    rfl
  case idle => exact if_pos (by simp [supply, timer])
  case retry => exact if_pos (by simp [supply, timer])

/-! ## Ambient light -/

theorem satSucc_eq (top n : Nat) : satSucc top n = if n < top then n + 1 else top := by
  simp only [satSucc]
  split <;> omega

/-- The window's band, the run of the candidate and the band it leaves in force (R181). -/
theorem adoptBand_eq (w : Nat) (c : Screen) :
    let run := match c.candidate with
      | some (b, n) => if b = w then n + 1 else 1
      | none => 1
    adoptBand w c = { c with
      band := if w ≠ c.band ∧ 3 ≤ run then w else c.band
      candidate := if w = c.band ∨ 3 ≤ run then none else some (w, run) } := by
  unfold adoptBand
  by_cases hw : w = c.band
  · simp [hw]
  · rcases hc : c.candidate with _ | ⟨b, n⟩
    · simp [hw]
    · by_cases hb : b = w
      · by_cases hn : n + 1 < 3
        · have : ¬ 3 ≤ n + 1 := by omega
          simp [hw, hb, hn, this]
        · have : 3 ≤ n + 1 := by omega
          simp [hw, hb, hn, this]
      · simp [hw, hb]

/-- Settles O39: the pulse saturates its count; the window is judged by `adoptBand_eq`; a period of BRIGHT is
`brightPeriod_lit` or `brightPeriod_off`. -/
theorem ambientLight : Obligations.AmbientLight := by
  unfold Obligations.AmbientLight
  refine ⟨⟨fun s => ?pulse, fun s h => ?window⟩, fun c level hl => ⟨?_, fun lit => ?lit, fun off x hx => ?off⟩⟩
  case pulse =>
    show execAmbPulse s = _
    rw [execAmbPulse, satSucc_eq]
    rfl
  case window =>
    refine (if_pos h).trans ?_
    rw [endWindow, adoptBand_eq]
    rfl
  case lit => simp [brightPeriod_lit c level lit hl, List.filter_append]
  case off =>
    rw [brightPeriod_off c level off] at hx
    exact List.eq_of_mem_replicate hx
  · simp [brightPeriod]

end Sys2Proof.Machine


/-! Pins and port resets (chapters 03 and 10), the moves of the link (chapter 06), and the frames a contention or a line
fault ends. -/

namespace Sys2Proof.Machine

-- One theorem at a time: the whole text is checked in one process.
set_option Elab.async false

/-! ## Pins and port resets -/

theorem PortState.hold_eq (p : PortState) (isPowered selLow : Bool) : p.hold isPowered selLow = { p with
    held := true
    selLow := selLow
    framing := if selLow && isPowered then .discard else p.framing
    octets := if selLow && isPowered then [] else p.octets } := by
  cases isPowered <;> cases selLow <;> rfl

theorem selRises_of_listening {port : Port} {s : State} (h : listening s port = true) :
    selRises port s = setPort s port (portOf s port).idle := by
  simp only [selRises, h, if_true, PortState.idle]

theorem selRises_of_not_listening {port : Port} {s : State} (h : listening s port = false) :
    selRises port s = setPort s port { portOf s port with selLow := false } := by
  simp only [selRises, h, Bool.false_eq_true, if_false]

/-- A port whose reset line has just returned high holds no notice, so that one latched then is its only one (R193, R196). -/
theorem release_latch (p : PortState) (low : Bool) : (p.release low).latch 0x0004#16 = { PortState.reset with
    selLow := low, framing := if low then .discard else .idle, dout := p.dout, notices := 0x0004#16 } := by
  simp [PortState.latch, PortState.release, PortState.afterReset, PortState.reset]

/-- Settles O6: each command is one update of its port, and the removal of a sale by VRSTn is `endSale`. -/
theorem pinsAndPortResets : Obligations.PinsAndPortResets := by
  unfold Obligations.PinsAndPortResets
  refine ⟨⟨fun s => rfl, fun low s => ?vhold, fun low s => ?shold, fun low s => rfl, fun p s hd hl => ?rises, fun p s hd hl => ?disregards,
    fun p s hd => if_neg hd⟩, fun low s => ⟨fun sale => ?noSale, fun sale hold => ?sale, fun sale hold => ?asked⟩,
    fun straps s dark hs => if_pos (by simpa [dark] using hs), fun straps s h => if_neg ?strapsIgnored⟩
  case vhold =>
    show execVendingPortHold low s = _
    rw [execVendingPortHold, PortState.hold_eq, Bool.and_true]
  case shold =>
    show execSignagePortHold low s = _
    rw [execSignagePortHold, PortState.hold_eq]
  case rises => exact (if_pos hd).trans (congrArg Host.Outcome.next (selRises_of_listening hl))
  case disregards => exact (if_pos hd).trans (congrArg Host.Outcome.next (selRises_of_not_listening hl))
  case noSale => exact congrArg Host.Outcome.next (if_neg (by simp [sale]))
  case sale => exact congrArg Host.Outcome.next ((if_pos sale).trans (congrArg evalDemand (if_neg hold)))
  case asked =>
    refine congrArg Host.Outcome.next ((if_pos sale).trans (congrArg evalDemand ?_))
    rw [endSale_eq, if_pos hold]
    exact congrArg (fun v => State.mk _ _ _ _ _ _ _ _ v _ _ _) (release_latch s.vport low)
  case strapsIgnored =>
    rcases h with h | h <;> simp [h]

/-! ## The moves of the link -/

/-- The state of a change of link state (R119), as the line interface has it (R121 to R125). -/
theorem setLink_eq (k : LinkState) (s : State) : setLink k s = { s with
    line := { s.line with
      link := k
      tx := none
      statusOwed := if s.line.tx.any TxFrame.carriesStatus then false else s.line.statusOwed
      urgentThreshold := 6
      routineThreshold := 11
      faultRun := 0
      resume := if k = .hunt then false else s.line.resume
      joinPending := if k = .synced then true else if k = .admitted then false else s.line.joinPending
      joinTimer := none
      admissionTimer := if k = .synced then some 960 else none
      silenceTimer := if k = .admitted then some 480 else none
      lostTimer := if k = .lost then some 1920 else none
      statusTimer := if k = .admitted then some 4800 else none }
    vport := s.vport.latch 0x0080#16 } := rfl

theorem classOf_of_le {n : Nat} (h : n ≤ 1) : classOf n = some (if n = 0 then .urgent else .routine) := by
  interval_cases n <;> rfl

theorem classOf_of_lt {n : Nat} (h : 1 < n) : classOf n = none := by
  match n with
  | n + 2 => rfl

/-- The fields of an ADMIT in good form (R123, R130). -/
theorem readAdmit_fields {p : List Byte} (hl : p.length = 6) (h : ∀ k, k < 6 → field p k 1 ≤ 1) :
    let cls (k : Nat) : AccessClass := if field p k 1 = 0 then .urgent else .routine
    readAdmit p = some
      { classMap := { status := cls 0, observation := cls 1, hold := cls 2, serialAsk := cls 3, loadReply := cls 4 }
        resume := decide (field p 5 1 = 1) } := by
  simp only [readAdmit, hl, h 5 (by decide), decide_true, Bool.and_self, if_true,
    classOf_of_le (h 0 (by decide)), classOf_of_le (h 1 (by decide)), classOf_of_le (h 2 (by decide)),
    classOf_of_le (h 3 (by decide)), classOf_of_le (h 4 (by decide))]

/-- An ADMIT of another length, or with a field beyond its list (R136). -/
theorem readAdmit_malformed {p : List Byte} (h : p.length ≠ 6 ∨ ∃ k, k < 6 ∧ 1 < field p k 1) : readAdmit p = none := by
  unfold readAdmit
  split
  next hf =>
    simp only [Bool.and_eq_true, decide_eq_true_eq] at hf
    obtain ⟨k, hk, hlt⟩ := h.resolve_left (by simp [hf.1])
    split
    next h0 h1 h2 h3 h4 =>
      interval_cases k
      · rw [classOf_of_lt hlt] at h0; cases h0
      · rw [classOf_of_lt hlt] at h1; cases h1
      · rw [classOf_of_lt hlt] at h2; cases h2
      · rw [classOf_of_lt hlt] at h3; cases h3
      · rw [classOf_of_lt hlt] at h4; cases h4
      · omega
    next => rfl
  next => rfl

/-- Settles O41: each command moves the link by `setLink`, which is the update `setLink_eq` gives. -/
theorem linkMoves : Obligations.LinkMoves := by
  unfold Obligations.LinkMoves
  refine fun s => ⟨fun addr h => ⟨fun link => ?restart, fun link => ?restartHunt⟩, fun addr p f h hr => ?admission,
    fun addr p h => ⟨fun hl hf => readAdmit_fields hl hf, fun hbad => ?malformed⟩,
    fun link timer => if_pos (by simp [link, timer]), fun link timer => if_pos (by simp [link, timer]),
    fun link timer => if_pos (by simp [link, timer]), fun link timer => if_pos (by simp [link, timer])⟩
  case restart =>
    refine congrArg Host.Outcome.next ((onMessage_carried h (rfl : readNothing [] = some ())).trans ?_)
    have dark : s.line.link ≠ .dark := fun hd => by
      have := h.1
      simp [heard, hd] at this
    have link' : (frameDone s).line.link = s.line.link := rfl
    unfold takeRestart
    split
    · rfl
    · rfl
    · rfl
    · next e => exact absurd (link' ▸ e) dark
    · next e => exact absurd (link' ▸ e) link
  case restartHunt =>
    refine congrArg Host.Outcome.next ((onMessage_carried h (rfl : readNothing [] = some ())).trans ?_)
    have link' : (frameDone s).line.link = .hunt := link
    simp only [takeRestart, link']
  case admission =>
    refine congrArg Host.Outcome.next ((onMessage_carried h hr).trans ?_)
    by_cases link : s.line.link = .synced
    · have link' : (frameDone s).line.link = .synced := link
      simp only [takeAdmit, link', link, if_true]
      rfl
    · have link' : (frameDone s).line.link ≠ .synced := link
      simp only [takeAdmit, link', link, if_false]
  case malformed =>
    exact congrArg Host.Outcome.next (onMessage_malformed h (readAdmit_malformed hbad))

/-! ## Frames that a contention or a line fault ends -/

/-- Settles O50: a frame that is given up is `Line.dropFrame`, and the third fault of a run moves the link by `faultLink`. -/
theorem framesLost : Obligations.FramesLost := by
  unfold Obligations.FramesLost
  intro s f htx _ _
  have status : s.line.tx.any TxFrame.carriesStatus = f.carriesStatus := by simp [htx]
  refine ⟨fun echo => ?contention, fun echo => ⟨fun run => ?first, fun run link => ?lost, fun run link => ?synced⟩⟩
  case contention =>
    refine (if_pos (by simp [htx, echo])).trans ?_
    rw [Line.dropFrame, status, satSucc_eq]
    rfl
  all_goals
    refine (if_pos (by simp [htx, echo])).trans (congrArg Host.Outcome.next ?_)
    rw [Line.dropFrame, status, satSucc_eq]
  case first => exact if_neg (by show ¬ 3 ≤ s.line.faultRun + 1; omega)
  case lost =>
    refine (if_pos (by show 3 ≤ s.line.faultRun + 1; omega)).trans ?_
    simp only [link]
    rfl
  case synced =>
    refine (if_pos (by show 3 ≤ s.line.faultRun + 1; omega)).trans ?_
    simp only [link]
    rfl

end Sys2Proof.Machine


/-! What a call's leaving of the saleable states does (R17), and an evaluation of every call or of one (R35 to R37), as one
update of the state. -/

namespace Sys2Proof.Machine

-- One theorem at a time: the whole text is checked in one process.
set_option Elab.async false

/-! ## Leaving the saleable states -/

section Leaving

variable {p : Nat → Bool} {s : State}

/-- A QUOTED sale bound to one of the calls is VOID, with QUOTE_VOID latched (R89). -/
theorem leaving_bound {x : Sale} (hx : s.issue.sale = some x) (quoted : x.state = .quoted) (hc : x.call.any p = true) :
    (leaving p s).issue = { s.issue with sale := some { x with state := .void } } ∧
      (leaving p s).vport = s.vport.latch 0x0002#16 := by
  have bound : x.boundIn p = true := by simp [Sale.boundIn, quoted, hc]
  simp only [leaving, hx, Option.map_some, Option.any_some, bound, if_true, Sale.voidIn]
  exact ⟨trivial, rfl⟩

/-- Any other sale is left as it is (R89). -/
theorem leaving_unbound (h : ∀ x, s.issue.sale = some x → x.state = .void ∨ x.call.any p = false) :
    (leaving p s).issue = s.issue ∧ (leaving p s).vport = s.vport := by
  cases hx : s.issue.sale with
  | none =>
    simp only [leaving, hx, Option.map_none, Option.any_none, Bool.false_eq_true, if_false, and_true]
    rw [← hx]
  | some x =>
    have bound : x.boundIn p = false := by
      rcases h x hx with hv | hc
      · simp [Sale.boundIn, hv]
      · simp [Sale.boundIn, hc]
    simp only [leaving, hx, Option.map_some, Option.any_some, bound, Bool.false_eq_true, if_false, and_true, Sale.voidIn]
    rw [← hx]

/-- The STOP_REQUESTs of the calls leave the urgent queue, and a frame at one of them is no longer at its item (R132). -/
theorem leaving_line : (leaving p s).line = { s.line with
    urgent := s.line.urgent.filter fun i => !i.stopOf.any p
    tx := if (s.line.urgent.head?.bind Item.stopOf).any p = true then
        s.line.tx.map fun f => { f with queued := match f.source with
          | .urgentItem _ => false
          | .join | .routineItem _ | .sale _ => f.queued }
      else s.line.tx } := rfl

end Leaving

/-- The STOP_REQUEST of a call leaves the urgent queue, and a frame at it is no longer at its item (R132). -/
theorem Line.removeStop_line (n : Nat) (l : Line) : l.removeStop n = { l with
    urgent := l.urgent.filter fun i => i.stopOf ≠ some n
    tx := if l.urgent.head?.bind Item.stopOf = some n then
        l.tx.map fun f => { f with queued := match f.source with
          | .urgentItem _ => false
          | .join | .routineItem _ | .sale _ => f.queued }
      else l.tx } := by
  have only (o : Option Nat) : (o.any fun m => decide (m = n)) = decide (o = some n) := by
    cases o <;> simp
  rw [Line.removeStop_eq, Line.withdraw]
  simp only [only, decide_eq_true_eq, decide_not]
  rfl

/-- Settles O12: the leaving of one call is `leaving` for its service number alone. -/
theorem leavingSaleable : Obligations.LeavingSaleable := by
  unfold Obligations.LeavingSaleable
  intro n s
  have only (o : Option Nat) : (o.any fun m => decide (m = n)) = decide (o = some n) := by
    cases o <;> simp
  refine ⟨leaving (fun m => m = n) s, leaveSaleable_eq n s, rfl, fun x hx quoted hc => ?bound, fun h => ?unbound, ?line, ?calls⟩
  case bound => exact leaving_bound hx quoted (by simp [hc])
  case unbound => exact leaving_unbound fun x hx => (h x hx).imp id fun hc => by simpa [only] using hc
  case line =>
    exact (congrArg State.line (leaveSaleable_eq n s)).symm.trans ((leaveSaleable_line n s).trans (Line.removeStop_line n s.line))
  case calls => simp only [leaving, decide_eq_true_eq]

/-! ## Evaluation -/

theorem CallState.isOpen_eq (k : CallState) : k.isOpen = (decide (k = .scheduled) || decide (k = .due)) := by
  cases k <;> rfl

theorem isPast_lapsePoint (p : Params) (now : Nat) (c : Call) :
    isPast now (lapsePoint p c) = (approach c).any fun a => decide (a + p.attribution < now) := by
  cases h : approach c <;> simp [isPast, lapsePoint, h]
  omega

theorem isReached_duePoint (p : Params) (now : Nat) (c : Call) :
    isReached now (duePoint p c) = (approach c).any fun a => decide (a ≤ now + p.dueWindow) := by
  cases h : approach c <;> simp [isReached, duePoint, h]
  omega

section Evaluation

variable {s : State}

/-- The call is open and past its lapse point, so that an evaluation lapses it (R35, R36). -/
def lapsesNow (s : State) (c : Call) : Bool :=
  c.state.isOpen && (approach c).any fun a => decide (a + s.line.params.attribution < s.clock.time.sec)

/-- The service numbers of the ACTIVE calls that an evaluation of some of the bank lapses. -/
def lapsedBy (picked : Call → Bool) (s : State) (n : Nat) : Bool :=
  s.calls.active.any fun c => c.service = n && (picked c && lapsesNow s c)

/-- An evaluation of some of the ACTIVE calls. -/
def evaluatePicked (picked : Call → Bool) (s : State) : State :=
  leaving (lapsedBy picked s)
    (s.mapActive fun c => if picked c then { c with state := evaluated s.line.params s.now c } else c)

theorem isPast_now (c : Call) : isPast s.now (lapsePoint s.line.params c)
    = (approach c).any fun a => decide (a + s.line.params.attribution < s.clock.time.sec) := isPast_lapsePoint _ _ c

theorem isReached_now (c : Call) : isReached s.now (duePoint s.line.params c)
    = (approach c).any fun a => decide (a ≤ s.clock.time.sec + s.line.params.dueWindow) := isReached_duePoint _ _ c

theorem lapses_iff (c : Call) :
    (c.state.isOpen && evaluated s.line.params s.now c = .lapsed) = lapsesNow s c := by
  unfold lapsesNow evaluated
  rw [isPast_now]
  cases hopen : c.state.isOpen
  · rfl
  · cases hl : (approach c).any fun a => decide (a + s.line.params.attribution < s.clock.time.sec)
    · simp only [Bool.not_true, Bool.false_eq_true, if_false]
      split <;> rfl
    · rfl

theorem evaluateAll_eq (set : s.clock.timeState ≠ .unset) : evaluateAll s = evaluatePicked (fun _ => true) s := by
  have timeSet : s.timeSet = true := by simpa [State.timeSet] using set
  have same : (fun n => (lapsing s).contains n) = lapsedBy (fun _ => true) s := by
    funext n
    rw [Bool.eq_iff_iff]
    simp only [lapsing, lapses_iff, lapsedBy, Bool.true_and, List.contains_iff_mem, List.mem_map,
      List.mem_filter, List.any_eq_true, Bool.and_eq_true, decide_eq_true_eq]
    exact ⟨fun ⟨c, ⟨hc, hl⟩, hn⟩ => ⟨c, hc, hn, hl⟩, fun ⟨c, hc, hn, hl⟩ => ⟨c, ⟨hc, hl⟩, hn⟩⟩
  simp only [evaluateAll, timeSet, if_true, foldl_leaveSaleable_eq, same, evaluatePicked]

theorem evaluateCall_eq (set : s.clock.timeState ≠ .unset) (good : GoodBank s.calls.active) (n : Nat) :
    evaluateCall n s = evaluatePicked (fun c => decide (c.service = n)) s := by
  have timeSet : s.timeSet = true := by simpa [State.timeSet] using set
  have map : (s.mapActive fun c => if decide (c.service = n) = true then { c with state := evaluated s.line.params s.now c } else c)
      = s.mapCall n fun c => { c with state := evaluated s.line.params s.now c } := by
    simp only [decide_eq_true_eq]
    rfl
  simp only [evaluateCall, timeSet, if_true, lapses_iff, evaluatePicked, map]
  split
  next h =>
    obtain ⟨c, hc, hn, hl⟩ := bankFind_any h
    rw [leaveSaleable_eq]
    congr 1
    funext m
    rw [Bool.eq_iff_iff]
    simp only [lapsedBy, List.any_eq_true, Bool.and_eq_true, decide_eq_true_eq]
    exact ⟨fun hm => ⟨c, hc, by rw [hn, hm], hn, hl⟩, fun ⟨d, _, hd, he, _⟩ => by rw [← hd, he]⟩
  next h =>
    have none : lapsedBy (fun c => decide (c.service = n)) s = fun _ => false := by
      funext m
      simp only [lapsedBy, List.any_eq_false, Bool.and_eq_true, decide_eq_true_eq, not_and]
      intro c hc _ hn hl
      refine h ?_
      rw [State.call, ← hn, good.find_any hc]
      exact hl
    rw [none, leaving_none]

/-- The evaluation of one call of the bank (R35, R36). -/
theorem evaluateCall_of_mem (set : s.clock.timeState ≠ .unset) (good : GoodBank s.calls.active) {c : Call}
    (hc : c ∈ s.calls.active) : evaluateCall c.service s =
      let t : State := { s with calls := { s.calls with active := s.calls.active.map fun d =>
        if d.service = c.service then { c with state := evaluated s.line.params s.now c } else d } }
      if lapsesNow s c then leaveSaleable c.service t else t := by
  have timeSet : s.timeSet = true := by simpa [State.timeSet] using set
  have one := map_one good.sorted hc fun d => { d with state := evaluated s.line.params s.now d }
  simp only [evaluateCall, timeSet, if_true, lapses_iff, State.call, good.find_any hc, State.mapCall, State.mapActive, one]

/-- In a bank without duplicates the service numbers lapsed are those of the calls that lapse. -/
theorem lapsedBy_service (good : GoodBank s.calls.active) (picked : Call → Bool) {c : Call} (hc : c ∈ s.calls.active) :
    lapsedBy picked s c.service = (picked c && lapsesNow s c) := by
  rw [Bool.eq_iff_iff]
  simp only [lapsedBy, List.any_eq_true, Bool.and_eq_true, decide_eq_true_eq]
  refine ⟨fun ⟨d, hd, he, h⟩ => ?_, fun h => ⟨c, hc, rfl, h⟩⟩
  rwa [good.unique hd hc he] at h

/-- The calls after an evaluation of some of the bank (R35, R36). -/
theorem evaluatePicked_calls (good : GoodBank s.calls.active) (picked : Call → Bool) :
    (evaluatePicked picked s).calls = { s.calls with
      active := s.calls.active.map fun c =>
        if picked c && lapsesNow s c then { c with state := .lapsed, ackTimer := none }
        else if picked c && c.state.isOpen then
          { c with state :=
            if (approach c).any fun a => decide (a ≤ s.clock.time.sec + s.line.params.dueWindow) then .due else .scheduled }
        else c } := by
  have key : ∀ c ∈ s.calls.active, (if lapsedBy picked s
        (if picked c then { c with state := evaluated s.line.params s.now c } else c).service then
          { (if picked c then { c with state := evaluated s.line.params s.now c } else c) with ackTimer := none }
        else if picked c then { c with state := evaluated s.line.params s.now c } else c)
      = if picked c && lapsesNow s c then { c with state := .lapsed, ackTimer := none }
        else if picked c && c.state.isOpen then
          { c with state :=
            if (approach c).any fun a => decide (a ≤ s.clock.time.sec + s.line.params.dueWindow) then .due else .scheduled }
        else c := by
    intro c hc
    have service : (if picked c then { c with state := evaluated s.line.params s.now c } else c).service = c.service := by
      split <;> rfl
    rw [service, lapsedBy_service good picked hc]
    cases hp : picked c
    · simp
    · simp only [if_true, Bool.true_and]
      have e := lapses_iff (s := s) c
      cases ho : c.state.isOpen
      · have : lapsesNow s c = false := by simp [lapsesNow, ho]
        simp [this, evaluated, ho]
      · rw [ho, Bool.true_and] at e
        cases hl : lapsesNow s c
        · have hl' := hl
          simp only [lapsesNow, ho, Bool.true_and] at hl'
          simp only [evaluated, ho, isPast_now, isReached_now, hl', Bool.not_true, Bool.false_eq_true, if_false,
            if_true]
        · have : evaluated s.line.params s.now c = .lapsed := by simpa [hl] using e
          simp [this]
  simp only [evaluatePicked, leaving, State.mapActive, List.map_map]
  congr 1
  exact List.map_congr_left key

end Evaluation

/-- Settles O24: both evaluations are `evaluatePicked`, whose calls are `evaluatePicked_calls` and whose other effects are
those of `leaving`. -/
theorem evaluationOfAll : Obligations.EvaluationOfAll := by
  unfold Obligations.EvaluationOfAll
  intro s good
  refine ⟨fun unset => ⟨?_, fun n => ?_⟩, fun picked t set ht => ?_⟩
  · simp [evaluateAll, State.timeSet, unset]
  · simp [evaluateCall, State.timeSet, unset]
  · have e : t = evaluatePicked picked s := by
      rcases ht with ⟨rfl, rfl⟩ | ⟨n, rfl, rfl⟩
      · exact evaluateAll_eq set
      · exact evaluateCall_eq set good n
    have ends : (fun n => s.calls.active.any fun c => decide (c.service = n) &&
        (picked c && (decide (c.state = .scheduled) || decide (c.state = .due)) &&
          (approach c).any fun a => decide (a + s.line.params.attribution < s.clock.time.sec))) = lapsedBy picked s := by
      funext n
      simp only [lapsedBy, lapsesNow, CallState.isOpen_eq, Bool.and_assoc]
    dsimp only
    simp only [ends]
    subst e
    refine ⟨rfl, ?calls, leaving_line, fun x hx quoted hc => ?bound, fun h => ?unbound⟩
    case calls =>
      rw [evaluatePicked_calls good]
      simp only [lapsesNow, CallState.isOpen_eq, Bool.and_assoc]
    case bound => exact leaving_bound (s := s.mapActive _) hx quoted hc
    case unbound => exact leaving_unbound (s := s.mapActive _) h

end Sys2Proof.Machine


/-! The messages and the deadlines of one call (chapters 01 and 02), and the holdover timer (chapter 03). -/

namespace Sys2Proof.Machine

-- One theorem at a time: the whole text is checked in one process.
set_option Elab.async false

/-! ## Fields of a payload -/

theorem beNat_lt (bs : List Byte) : beNat bs < 256 ^ bs.length := by
  have go : ∀ (bs : List Byte) (n k : Nat), n < 256 ^ k →
      bs.foldl (fun n b => 256 * n + b.toNat) n < 256 ^ (k + bs.length) := by
    intro bs
    induction bs with
    | nil => exact fun n k h => h
    | cons b bs ih =>
      intro n k h
      have step : 256 * n + b.toNat < 256 ^ (k + 1) := by
        have := b.isLt
        rw [pow_succ]
        omega
      have := ih _ _ step
      rwa [List.length_cons, Nat.add_comm bs.length, ← Nat.add_assoc]
  have := go bs 0 0 (by simp)
  rwa [Nat.zero_add] at this

/-- A field holds less than its width can carry (R200). -/
theorem field_lt (p : List Byte) (off w : Nat) : field p off w < 256 ^ w :=
  (beNat_lt _).trans_le (Nat.pow_le_pow_right (by decide) (by simp))

theorem field_octet_le (p : List Byte) (off : Nat) : field p off 1 ≤ 255 := by
  have := field_lt p off 1
  omega

theorem field_two_le (p : List Byte) (off : Nat) : field p off 2 ≤ 65535 := by
  have := field_lt p off 2
  omega

/-! ## Operations on the call of one service number -/

theorem State.mapCall_mapCall (n : Nat) (f g : Call → Call) (s : State) (hf : ∀ c, (f c).service = c.service) :
    (s.mapCall n f).mapCall n g = s.mapCall n fun c => g (f c) := by
  simp only [State.mapCall, State.mapActive, List.map_map]
  congr 2
  refine List.map_congr_left fun c _ => ?_
  by_cases h : c.service = n
  · simp [h, hf]
  · simp [h]

theorem bankFind_map (n : Nat) (f : Call → Call) (bank : List Call) (hf : ∀ c, (f c).service = c.service) :
    bankFind n (bank.map f) = (bankFind n bank).map f := by
  simp only [bankFind, List.find?_map, Function.comp_def, hf]

/-- A test of the call of a service number fails where no call of that number passes it. -/
theorem call_any_false {s : State} {n : Nat} {q : Call → Bool} (h : ∀ c ∈ s.calls.active, c.service = n → q c = false) :
    (s.call n).any q = false := by
  cases hq : (s.call n).any q
  · rfl
  · obtain ⟨c, hc, hn, hp⟩ := bankFind_any hq
    rw [h c hc hn] at hp
    cases hp

/-- A test of the call of a service number succeeds where the call of that number passes it. -/
theorem call_any_true {s : State} {n : Nat} {q : Call → Bool} (good : GoodBank s.calls.active) {c : Call}
    (hc : c ∈ s.calls.active) (hn : c.service = n) (hp : q c = true) : (s.call n).any q = true := by
  rw [State.call, ← hn, good.find_any hc, hp]

theorem recompute_service (c : Call) : (recompute c).service = c.service := (recompute_keepsStop .none c).service

theorem recompute_stop (c : Call) : (recompute c).stop = c.stop := (recompute_keepsStop .none c).stop

/-- A call is recomputed after it has been changed, and evaluated (R38). -/
theorem recomputeCall_mapCall (n : Nat) (f : Call → Call) (s : State) (hf : ∀ c, (f c).service = c.service) :
    recomputeCall n (s.mapCall n f) = evaluateCall n (s.mapCall n fun c => recompute (f c)) := by
  rw [recomputeCall, State.mapCall_mapCall n f recompute s hf]

theorem evaluateCall_stops (n : Nat) (s : State) :
    (evaluateCall n s).calls.active.map (fun c => (c.service, c.stop)) = s.calls.active.map fun c => (c.service, c.stop) := by
  have one : ∀ (f : Call → Call) (t : State), (∀ c, (f c).service = c.service ∧ (f c).stop = c.stop) →
      (t.mapCall n f).calls.active.map (fun c => (c.service, c.stop)) = t.calls.active.map fun c => (c.service, c.stop) := by
    intro f t hf
    simp only [State.mapCall_active, List.map_map]
    refine List.map_congr_left fun c _ => ?_
    simp only [Function.comp_apply]
    split <;> simp [hf]
  unfold evaluateCall
  split
  · dsimp only
    split
    · rw [leaveSaleable_calls]
      exact (one (fun c => { c with ackTimer := none }) _ fun c => ⟨rfl, rfl⟩).trans (one _ _ fun c => ⟨rfl, rfl⟩)
    · exact one _ _ fun c => ⟨rfl, rfl⟩
  · rfl

/-- An evaluation changes no stop state. -/
theorem evaluateCall_call_stop (n m : Nat) (s : State) :
    ((evaluateCall n s).call m).map (fun c => c.stop) = (s.call m).map fun c => c.stop := by
  have find : ∀ b : List Call, (bankFind m b).map (fun c => c.stop)
      = ((b.map fun c => (c.service, c.stop)).find? fun x => x.1 = m).map Prod.snd := fun b => by
    simp [bankFind, List.find?_map, Function.comp_def]
  rw [State.call, State.call, find, find, evaluateCall_stops]

section Messages

variable {addr : Byte} {p : List Byte} {s : State}

/-! ## DELAY -/

theorem exec_delay (h : takesMessage s .delay addr p) (hl : p.length = 8) :
    exec (.delay addr p) s = .next (takeDelay
      { service := field p 0 2
        notice :=
          { delay := max (-900) (min (if field p 3 2 < 32768 then (field p 3 2 : Int) else (field p 3 2 : Int) - 65536) 21600)
            point := max 1 (field p 2 1)
            report := min (field p 5 3) 86399 } } (frameDone s)) := by
  refine congrArg Host.Outcome.next (onMessage_carried h ((if_pos hl).trans ?_))
  rw [clamp_zero, clamp, Nat.min_eq_left (field_octet_le p 2)]
  rfl

/-- A notice replaces the stored one if it is not earlier by report time (R27). -/
theorem replacesNotice_iff (new : DelayNotice) (old : Option DelayNotice) :
    replacesNotice new old = true ↔ ∀ x, old = some x → x.report ≤ new.report := by
  cases old <;> simp [replacesNotice]

/-- The test of a DELAY (R27). -/
theorem delayTest_iff (new : DelayNotice) (c : Call) :
    ((c.state.isOpen || c.state = .arrived) && replacesNotice new c.notice) = true ↔
      (c.state = .scheduled ∨ c.state = .due ∨ c.state = .arrived) ∧ ∀ old, c.notice = some old → old.report ≤ new.report := by
  rw [Bool.and_eq_true, replacesNotice_iff, Bool.or_eq_true, CallState.isOpen_iff, decide_eq_true_eq, or_assoc]

end Messages

/-- Settles O27: the notice is stored by `takeDelay`, whose test is `delayTest_iff`. -/
theorem delayNotices : Obligations.DelayNotices := by
  unfold Obligations.DelayNotices
  intro addr p s h hl good
  rw [exec_delay h hl]
  refine ⟨fun c hc hn takes => ?stored, fun none => ?ignored⟩
  case stored =>
    refine congrArg Host.Outcome.next
      ((if_pos (call_any_true (s := frameDone s) good hc hn ((delayTest_iff _ c).2 takes))).trans ?_)
    rw [recomputeCall_mapCall]
    · rfl
    · exact fun _ => rfl
  case ignored =>
    refine congrArg Host.Outcome.next (if_neg ?_)
    rw [call_any_false (s := frameDone s)]
    · exact Bool.false_ne_true
    · exact fun c hc hn => Bool.eq_false_iff.2 fun ht => none c hc hn ((delayTest_iff _ c).1 ht)

/-! ## CANCEL and REINSTATE -/

/-- Settles O28: CANCEL and REINSTATE go by the state of their call; a REINSTATE offers a stop that its call then wants, which
neither the recomputation nor the evaluation changes. -/
theorem cancelAndReinstate : Obligations.CancelAndReinstate := by
  unfold Obligations.CancelAndReinstate
  intro addr p s hl good
  refine ⟨fun h => ?cancel, fun h => ?reinstate⟩
  case cancel =>
    have run : exec (.cancel addr p) s = .next (takeCancel (field p 0 2) (frameDone s)) :=
      congrArg Host.Outcome.next (onMessage_carried h (if_pos hl))
    rw [run]
    refine ⟨fun ⟨c, hc, hn, ho⟩ => ?_, fun none => ?_⟩
    · exact congrArg Host.Outcome.next
        (if_pos (call_any_true (s := frameDone s) good hc hn ((CallState.isOpen_iff _).2 ho)))
    · refine congrArg Host.Outcome.next (if_neg ?_)
      rw [call_any_false (s := frameDone s)]
      · exact Bool.false_ne_true
      · intro c hc hn
        obtain ⟨h1, h2⟩ := none c hc hn
        exact Bool.eq_false_iff.2 fun ho => ((CallState.isOpen_iff _).1 ho).elim h1 h2
  case reinstate =>
    have run : exec (.reinstate addr p) s = .next (takeReinstate (field p 0 2) (frameDone s)) :=
      congrArg Host.Outcome.next (onMessage_carried h (if_pos hl))
    rw [run]
    refine ⟨fun c hc hn hs => ?_, fun none => ?_⟩
    · refine congrArg Host.Outcome.next ((if_pos (call_any_true (s := frameDone s) good hc hn (decide_eq_true hs))).trans ?_)
      rw [recomputeCall_mapCall (field p 0 2) reinstated (frameDone s) fun _ => rfl]
      refine congrArg rebuild (if_congr ?_ rfl rfl)
      have stop := evaluateCall_call_stop (field p 0 2) (field p 0 2)
        ((frameDone s).mapCall (field p 0 2) fun c => recompute (reinstated c))
      have found : bankFind (field p 0 2) s.calls.active = some c := by rw [← hn, good.find hc]
      have same : ∀ d : Call, (if d.service = field p 0 2 then recompute (reinstated d) else d).service = d.service := fun d => by
        split
        · exact recompute_service _
        · rfl
      rw [State.call, State.call, State.mapCall_active, bankFind_map _ _ _ same, frameDone_calls, found, Option.map_some,
        Option.map_some, if_pos hn, recompute_stop] at stop
      obtain ⟨d, hd, hds⟩ := Option.map_eq_some_iff.1 stop
      rw [State.call, hd, Option.any_some, decide_eq_true_eq, hds]
      cases hcs : c.stop <;> simp [reinstated, hcs]
    · refine congrArg Host.Outcome.next (if_neg ?_)
      rw [call_any_false (s := frameDone s)]
      · exact Bool.false_ne_true
      · exact fun c hc hn => decide_eq_false (none c hc hn)

/-! ## STOP_ACK -/

/-- Settles O42: a STOP_ACK goes by the stop state of its call, and its STOP_REQUEST leaves by `Line.removeStop`. -/
theorem stopAcknowledged : Obligations.StopAcknowledged := by
  unfold Obligations.StopAcknowledged
  refine fun s good => ⟨fun addr p h hl => ?ack, fun c hc sent timer => ?timeout⟩
  case ack =>
    have run : exec (.stopAck addr p) s = .next (takeStopAck (field p 0 2) (frameDone s)) :=
      congrArg Host.Outcome.next (onMessage_carried h (if_pos hl))
    rw [run]
    refine ⟨fun ⟨c, hc, hn, kind, stop⟩ => ?_, fun none => ?_⟩
    · refine congrArg Host.Outcome.next
        ((if_pos (call_any_true (s := frameDone s) good hc hn (by simpa [kind] using stop))).trans (congrArg rebuild ?_))
      rw [removeStop, Line.removeStop_line]
      rfl
    · refine congrArg Host.Outcome.next (if_neg ?_)
      rw [call_any_false (s := frameDone s)]
      · exact Bool.false_ne_true
      · intro c hc hn
        rcases none c hc hn with h | ⟨h1, h2⟩
        · simp [h]
        · simp [h1, h2]
  case timeout =>
    refine (if_pos (call_any_true good hc rfl (by simp [sent, timer]))).trans ?_
    have one := map_one good.sorted hc stopAckExpired
    rw [State.mapCall, State.mapActive, one]
    rfl

/-! ## Deadlines -/

theorem isReached_horizonEntry (p : Params) (now : Nat) (c : Call) :
    isReached now (horizonEntry p c) = (boardTime c).any fun b => decide (b ≤ now + 60 * p.boardHorizon) := by
  cases h : boardTime c <;> simp [isReached, horizonEntry, h]
  omega

theorem isReached_wakeEntry (p : Params) (now : Nat) (c : Call) :
    isReached now (wakeEntry p c) = (boardTime c).any fun b => decide (b ≤ now + 60 * p.wakeWindow) := by
  cases h : boardTime c <;> simp [isReached, wakeEntry, h]
  omega

theorem isReached_displayEnd (p : Params) (now : Nat) (c : Call) :
    isReached now (displayEnd p c) = (c.sd.or c.sa).any fun t => decide (t + 60 * p.cancelledHold ≤ now) := by
  cases h : c.sd.or c.sa <;> simp [isReached, displayEnd, h]
  omega

theorem isStale_eq (p : Params) (now : Nat) (c : Call) :
    isStale p now c = c.notice.any fun n => decide (n.report + p.stalenessLimit < now) := by
  cases h : c.notice <;> simp [isStale, isPast, stalenessPoint, h]
  omega

/-- Settles O29: each deadline's guard holds of its call; the two of the evaluation are `evaluatePicked` of that call. -/
theorem deadlinesReached : Obligations.DeadlinesReached := by
  unfold Obligations.DeadlinesReached
  intro s c good hc set
  have timeSet : s.timeSet = true := by simpa [State.timeSet] using set
  have guard {q : Call → Bool} (hq : q c = true) : (s.timeSet && (s.call c.service).any q) = true := by
    rw [timeSet, Bool.true_and]
    exact call_any_true good hc rfl hq
  refine ⟨fun a ha hs hd hl => ?due, fun a ha ho hl => ?lapse, fun b hb hr => ?horizon, fun t ht hs hr => ?display,
    fun x hx hr => ?stale, fun b r hb hm hn hr => ?wake⟩
  case due =>
    have stays : lapsesNow s c = false := by
      simp only [lapsesNow, hs, ha, Option.any_some, CallState.isOpen, Bool.true_and, decide_eq_false_iff_not]
      omega
    have now : evaluated s.line.params s.now c = .due := by
      have past : isPast s.now (lapsePoint s.line.params c) = false := by rw [isPast_now, ha]; simpa using hl
      have reached : isReached s.now (duePoint s.line.params c) = true := by rw [isReached_now, ha]; simpa using hd
      simp [evaluated, hs, CallState.isOpen, past, reached]
    refine (if_pos (guard ?_)).trans (congrArg (fun t => Host.Outcome.next (rebuild t)) ?_)
    · rw [isReached_now, ha]
      simpa [hs] using hd
    · rw [evaluateCall_of_mem set good hc, now, stays]
      rfl
  case lapse =>
    have isOpen : c.state.isOpen = true := (CallState.isOpen_iff _).2 ho
    have past : isPast s.now (lapsePoint s.line.params c) = true := by rw [isPast_now, ha]; simpa using hl
    have lapses : lapsesNow s c = true := by
      simp only [lapsesNow, isOpen, ha, Option.any_some, Bool.true_and, decide_eq_true_eq]
      exact hl
    have now : evaluated s.line.params s.now c = .lapsed := by simp [evaluated, isOpen, past]
    refine (if_pos (guard ?_)).trans (congrArg (fun t => Host.Outcome.next (rebuild t)) ?_)
    · rw [isOpen, past]
      rfl
    · rw [evaluateCall_of_mem set good hc, now, lapses]
      rfl
  case horizon => exact if_pos (guard (by rw [isReached_horizonEntry, hb]; exact decide_eq_true hr))
  case display => exact if_pos (guard (by rw [isReached_displayEnd, ht, hs]; exact decide_eq_true hr))
  case stale => exact if_pos (guard (by rw [isStale_eq, hx]; exact decide_eq_true hr))
  case wake =>
    have row : (s.board.board.rows.any fun r => decide (r.service = c.service)) = true :=
      List.any_eq_true.2 ⟨r, hm, by simp [hn]⟩
    refine if_pos ?_
    rw [timeSet, row, Bool.true_and, Bool.true_and]
    refine call_any_true good hc rfl ?_
    rw [isReached_wakeEntry, hb]
    exact decide_eq_true hr

/-! ## The holdover timer and the start of a frame -/

/-- Settles O22: the two commands take their first branch under the hypotheses, and the space is heard as a start symbol
exactly under those of the third. -/
theorem holdoverAndFrameStart : Obligations.HoldoverAndFrameStart := by
  unfold Obligations.HoldoverAndFrameStart
  refine ⟨fun s locked timer => if_pos (by simp [locked, timer]), fun s => ⟨fun link phase marks => ?heard, fun none => if_neg ?ignored⟩⟩
  case heard =>
    have ready : s.line.rx.ready = true := by simp [Receiver.ready, phase, marks]
    refine (if_pos (by simp [hearsStart, link, ready])).trans ?_
    rw [Receiver.startArrives, if_pos ready]
    rfl
  case ignored =>
    rcases none with h | h | h <;> simp [hearsStart, Receiver.ready, h]

end Sys2Proof.Machine


/-! The platform monitor (chapter 08): the edges of OCC and the timers of an occupancy, the calls it reports, and the stop
button. -/

namespace Sys2Proof.Machine

-- One theorem at a time: the whole text is checked in one process.
set_option Elab.async false

/-! ## Stamps -/

theorem stampNow_eq (s : State) : stampNow s = { time := s.clock.time, isSet := decide (s.clock.timeState ≠ .unset) } := by
  cases h : s.clock.timeState <;> simp [stampNow, State.timeSet, h]

theorem stampNow_observed (s : State) :
    (stampNow s).observed = if s.clock.timeState = .unset then none else some s.clock.time.sec := by
  rw [stampNow_eq, Stamp.observed]
  by_cases h : s.clock.timeState = .unset <;> simp [h]

/-! ## Edges of OCC and the timers of an occupancy -/

/-- Settles O9: each command by the occupancy state and the release filter. -/
theorem occupancyFilters : Obligations.OccupancyFilters := by
  unfold Obligations.OccupancyFilters
  refine ⟨fun s => ⟨fun clear => ⟨?assertClear, ?releaseClear⟩, fun settling => ⟨?assertSettling, ?releaseSettling⟩,
      fun h => ⟨fun timer => ⟨?assertIdle, ?releaseIdle⟩, fun timer => ⟨?releaseAgain, fun marker => ?assertFilter⟩⟩⟩,
    fun s => ⟨fun state timer => if_pos (by simp [state, timer]), fun state timer release => ?threshold,
      fun state timer => ?standing, fun state timer => ?standingElse⟩⟩
  case assertClear =>
    show execOccAsserted s = _
    simp only [execOccAsserted, clear]
    rw [startSettling, stampNow_eq]
    rfl
  case releaseClear =>
    show execOccReleased s = _
    simp only [execOccReleased, clear]
  case assertSettling =>
    show execOccAsserted s = _
    simp only [execOccAsserted, settling]
  case releaseSettling =>
    show execOccReleased s = _
    simp only [execOccReleased, settling]
    rfl
  case assertIdle =>
    show execOccAsserted s = _
    have idle : s.platform.releaseTimer.isNone = true := by simp [timer]
    unfold execOccAsserted
    cases state : s.platform.state <;> simp_all
  case releaseIdle =>
    show execOccReleased s = _
    have idle : s.platform.releaseTimer.isSome = false := by simp [timer]
    rw [← stampNow_eq]
    unfold execOccReleased
    cases state : s.platform.state <;> simp_all [Config.occFilter, Config.seconds]
  case releaseAgain =>
    show execOccReleased s = _
    have runs : s.platform.releaseTimer.isSome = true := Option.isSome_iff_ne_none.2 timer
    unfold execOccReleased
    cases state : s.platform.state <;> simp_all
  case assertFilter =>
    show execOccAsserted s = _
    have runs : s.platform.releaseTimer.isNone = false := by simpa [Option.isSome_iff_ne_none] using timer
    unfold execOccAsserted
    cases state : s.platform.state <;> simp_all [endFilter]
  case threshold =>
    refine (if_pos (by simp [state, timer])).trans (if_pos ?_)
    exact Option.isSome_iff_ne_none.2 release
  case standing =>
    refine (if_pos timer).trans ((if_pos state).trans ?_)
    rw [stampNow_observed]
    rfl
  case standingElse => exact (if_pos timer).trans (if_neg state)

/-! ## The calls an occupancy reports -/

theorem heldInDay_eq (n : Nat) : heldInDay (n : Nat) = min n 86399 := by
  simp only [heldInDay, clampInt, Config.lastSecond]
  omega

theorem pastDay_eq (n : Nat) : pastDay (n : Nat) = decide (86399 < n) := by
  simp only [pastDay, Config.lastSecond]
  congr 1
  rw [eq_iff_iff]
  omega

/-- A call recomputed at the platform (R30). -/
theorem recompute_arrived (c : Call) (aa : Nat) (state : c.state = .arrived) (h : c.aa = some aa) : recompute c = { c with
    ea := c.sa.map fun _ => aa
    ed := c.sd.map fun d => min (max d (aa + c.md)) 86399
    beyond := c.sd.any fun d => 86399 < max d (aa + c.md) } := by
  simp only [recompute, state, h, atPlatform, heldInDay_eq, pastDay_eq]

/-- A departed call recomputed (R31). -/
theorem recompute_departed (c : Call) (ad : Nat) (state : c.state = .departed) (h : c.ad = some ad) : recompute c = { c with
    ea := c.sa.bind fun _ => if c.passed then some ad else c.aa
    ed := c.sd.map fun _ => ad
    beyond := false } := by
  cases ha : c.aa <;> simp only [recompute, state, h, gone, ha]

theorem startObserved_eq {s : State} {st : Stamp} (h : s.platform.start = some st) :
    startObserved s = if st.isSet then some st.time.sec else none := by
  rw [startObserved, h]
  rfl

section Decided

variable {s : State} {st : Stamp} (start : s.platform.start = some st)
include start

/-- The STOP of an occupancy attributed to a call (R156, R158). -/
theorem decideStop_matched {d : Call} (hd : attributed s = some d) : decideStop s = { s with
    calls := { s.calls with active := s.calls.active.map fun x =>
      if x.service = d.service then
        { x with
          state := .arrived
          aa := some st.time.sec
          ea := x.sa.map fun _ => st.time.sec
          ed := x.sd.map fun y => min (max y (st.time.sec + x.md)) 86399
          beyond := x.sd.any fun y => 86399 < max y (st.time.sec + x.md) }
      else x }
    platform := { s.platform with state := .stopped, matched := some d.service }
    line := s.line.enqueue s.line.classMap.observation (.observation .arrival (some d.service)
      (if st.isSet then some st.time.sec else none)) } := by
  have one : (fun x : Call => if x.service = d.service then recompute { x with state := .arrived, aa := some st.time.sec } else x)
      = fun x => if x.service = d.service then
        { x with
          state := .arrived
          aa := some st.time.sec
          ea := x.sa.map fun _ => st.time.sec
          ed := x.sd.map fun y => min (max y (st.time.sec + x.md)) 86399
          beyond := x.sd.any fun y => 86399 < max y (st.time.sec + x.md) }
      else x := by
    funext x
    rw [recompute_arrived { x with state := .arrived, aa := some st.time.sec } st.time.sec rfl rfl]
  rw [← one, ← startObserved_eq start]
  simp only [decideStop, hd, start]
  rfl

/-- The STOP of an occupancy attributed to no call (R156, R158). -/
theorem decideStop_unmatched (hd : attributed s = none) : decideStop s = { s with
    platform := { s.platform with state := .stopped, matched := none }
    line := s.line.enqueue s.line.classMap.observation (.observation .unmatchedArrival none
      (if st.isSet then some st.time.sec else none)) } := by
  rw [← startObserved_eq start]
  simp only [decideStop, hd]
  rfl

end Decided

/-- Settles O11: both commands decide the occupancy by `decideStop`, on the state with the filter ended or the timer
stopped, which attributes as `s` does. -/
theorem stopDecided : Obligations.StopDecided := by
  unfold Obligations.StopDecided
  intro c s st occupied start h
  rcases h with ⟨rfl, timer, release⟩ | ⟨rfl, marker, release⟩
  · have run : exec .stopThresholdExpiry s = .next (rebuild (decideStop { s with platform := { s.platform with stopTimer := none } })) := by
      refine (if_pos (by simp [occupied, timer])).trans (if_neg ?_)
      simp [release]
    rw [run]
    refine ⟨fun d hd => ?_, fun hd => ?_⟩
    · rw [decideStop_matched (s := { s with platform := { s.platform with stopTimer := none } }) start hd]
      rfl
    · rw [decideStop_unmatched (s := { s with platform := { s.platform with stopTimer := none } }) start hd]
      rfl
  · have run : exec .occAsserted s
        = .next (rebuild (decideStop (endFilter { s with platform := { s.platform with occ := true } }))) := by
      show execOccAsserted s = _
      have runs : s.platform.releaseTimer.isNone = false := by simpa [Option.isSome_iff_ne_none] using release
      simp [execOccAsserted, occupied, runs, marker]
    rw [run]
    refine ⟨fun d hd => ?_, fun hd => ?_⟩
    · rw [decideStop_matched (s := endFilter { s with platform := { s.platform with occ := true } }) start hd]
      rfl
    · rw [decideStop_unmatched (s := endFilter { s with platform := { s.platform with occ := true } }) start hd]
      rfl

/-! ## A release that persists -/

/-- The PASS of an occupancy attributed to a call (R159). -/
theorem decidePass_matched {s : State} {st : Stamp} (start : s.platform.start = some st) {d : Call}
    (hd : attributed s = some d) : decidePass s =
    offerObservation .pass (some d.service) (if st.isSet then some st.time.sec else none) (leaveSaleable d.service { s with
      platform := occupancyOver s.platform
      calls := { s.calls with active := s.calls.active.map fun x =>
        if x.service = d.service then
          { x with
            state := .departed
            passed := true
            ad := some st.time.sec
            ea := x.sa.map fun _ => st.time.sec
            ed := x.sd.map fun _ => st.time.sec
            beyond := false }
        else x } }) := by
  have one : (fun x : Call => if x.service = d.service then
        recompute { x with state := .departed, passed := true, ad := some st.time.sec } else x)
      = fun x => if x.service = d.service then
        { x with
          state := .departed
          passed := true
          ad := some st.time.sec
          ea := x.sa.map fun _ => st.time.sec
          ed := x.sd.map fun _ => st.time.sec
          beyond := false }
      else x := by
    funext x
    rw [recompute_departed { x with state := .departed, passed := true, ad := some st.time.sec } st.time.sec rfl rfl]
    cases x.sa <;> rfl
  rw [← one, ← startObserved_eq start]
  simp only [decidePass, hd, start]
  rfl

theorem decidePass_unmatched {s : State} {st : Stamp} (start : s.platform.start = some st) (hd : attributed s = none) :
    decidePass s = offerObservation .pass none (if st.isSet then some st.time.sec else none)
      { s with platform := occupancyOver s.platform } := by
  rw [← startObserved_eq start]
  simp only [decidePass, hd]

/-- The departure of a call in ARRIVED (R16, R160). -/
theorem reportDeparture_arrived {s : State} (good : GoodBank s.calls.active) {n : Nat} (st : Stamp)
    (h : ∃ c ∈ s.calls.active, c.service = n ∧ c.state = .arrived) : reportDeparture n st s =
    offerObservation .departure (some n) (if st.isSet then some st.time.sec else none) (leaveSaleable n { s with
      calls := { s.calls with active := s.calls.active.map fun x =>
        if x.service = n then
          { x with
            state := .departed
            ad := some st.time.sec
            ea := x.sa.bind fun _ => if x.passed then some st.time.sec else x.aa
            ed := x.sd.map fun _ => st.time.sec
            beyond := false }
        else x } }) := by
  obtain ⟨c, hc, hn, hs⟩ := h
  have one : (fun x : Call => if x.service = n then recompute { x with state := .departed, ad := some st.time.sec } else x)
      = fun x => if x.service = n then
        { x with
          state := .departed
          ad := some st.time.sec
          ea := x.sa.bind fun _ => if x.passed then some st.time.sec else x.aa
          ed := x.sd.map fun _ => st.time.sec
          beyond := false }
      else x := by
    funext x
    rw [recompute_departed { x with state := .departed, ad := some st.time.sec } st.time.sec rfl rfl]
  rw [← one]
  exact if_pos (call_any_true good hc hn (decide_eq_true hs))

/-- The departure of a call that is not in ARRIVED, or of none (R160). -/
theorem reportDeparture_other {s : State} {n : Nat} (st : Stamp) (h : ∀ c ∈ s.calls.active, c.service = n → c.state ≠ .arrived) :
    reportDeparture n st s
      = offerObservation .unmatchedDeparture none (if st.isSet then some st.time.sec else none) s := by
  refine if_neg ?_
  rw [call_any_false]
  · exact Bool.false_ne_true
  · exact fun c hc hn => decide_eq_false (h c hc hn)

/-- Settles O13: a release that persists is a PASS in OCCUPIED, and in STOPPED or BLIND the departure of the call matched or
held over. -/
theorem releasePersists : Obligations.ReleasePersists := by
  unfold Obligations.ReleasePersists
  refine ⟨fun s st occupied start timer => ?pass, fun s st good timer release =>
    ⟨fun n u hu => ?departure, fun stopped unmatched => ?unmatched, fun blind unheld => ?blind⟩⟩
  case pass =>
    have run : exec .releaseTimerExpiry s = .next (rebuild (decidePass s)) := by
      show execReleaseTimerExpiry s = _
      simp only [execReleaseTimerExpiry, timer, if_true, occupied]
    rw [run]
    refine ⟨fun d hd => ?_, fun hd => ?_⟩
    · rw [decidePass_matched start hd]
      rfl
    · rw [decidePass_unmatched start hd]
      rfl
  case departure =>
    have run : exec .releaseTimerExpiry s = .next (rebuild (reportDeparture n st u)) := by
      show execReleaseTimerExpiry s = _
      rcases hu with ⟨stopped, matched, rfl⟩ | ⟨blind, heldOver, rfl⟩
      · simp only [execReleaseTimerExpiry, timer, if_true, stopped, decideDeparture, release, matched]
        rfl
      · simp only [execReleaseTimerExpiry, timer, if_true, blind, endBlind, release, heldOver]
        rfl
    have calls : u.calls = s.calls := by
      rcases hu with ⟨_, _, rfl⟩ | ⟨_, _, rfl⟩ <;> rfl
    rw [run]
    refine ⟨fun h => ?_, fun h => ?_⟩
    · rw [reportDeparture_arrived (calls ▸ good) st (calls ▸ h), calls]
    · rw [reportDeparture_other st (calls ▸ h)]
  case unmatched =>
    show execReleaseTimerExpiry s = _
    simp only [execReleaseTimerExpiry, timer, if_true, stopped, decideDeparture, release, unmatched]
    rfl
  case blind =>
    show execReleaseTimerExpiry s = _
    simp only [execReleaseTimerExpiry, timer, if_true, blind, endBlind, unheld]
    rfl

end Sys2Proof.Machine


/-! Stops wanted and offered (R19, R20, R132): the queue after the offers of one offer point, and the press of the stop
button. -/

namespace Sys2Proof.Machine

-- One theorem at a time: the whole text is checked in one process.
set_option Elab.async false

/-! ## A cause of a stop -/

theorem isBefore_requestCutoff (p : Params) (now : Nat) (c : Call) :
    isBefore now (requestCutoff p c) = (approach c).any fun a => decide (now + p.requestMargin < a) := by
  cases h : approach c <;> simp [isBefore, requestCutoff, h]
  omega

section Wanted

variable {s : State} (good : GoodBank s.calls.active) {c : Call} (hc : c ∈ s.calls.active)
include good hc

theorem takesStop_of_mem : takesStop c.service s = (decide (c.kind = .request) && decide (c.stop = .none)) := by
  rw [takesStop, State.call, good.find_any hc]

/-- A cause of a stop reaches a call of the bank (R19, R20). -/
theorem wantStop_of_mem (o : Origin) (kind : c.kind = .request) (stop : c.stop = .none) : wantStop c.service o s =
    let bank := s.calls.active.map fun d => if d.service = c.service then stopFrom s.line.params s.now o c else d
    let t : State := { s with calls := { s.calls with active := bank } }
    if isBefore s.now (requestCutoff s.line.params c) then offerStops t else t := by
  have takes : takesStop c.service s = true := by simp [takesStop_of_mem good hc, kind, stop]
  have one := map_one good.sorted hc (stopFrom s.line.params s.now o)
  have found : bankFind c.service (s.calls.active.map fun d => if d.service = c.service then stopFrom s.line.params s.now o c else d)
      = some (stopFrom s.line.params s.now o c) := by
    rw [bankFind_map, good.find hc, Option.map_some, if_pos rfl]
    intro d
    split
    · next h => exact h.symm
    · rfl
  have wanted : (stopFrom s.line.params s.now o c).stop = if isBefore s.now (requestCutoff s.line.params c) then .wanted else .late := rfl
  simp only [wantStop, takes, if_true, State.call, State.mapCall, State.mapActive, one, found, Option.any_some, wanted]
  cases isBefore s.now (requestCutoff s.line.params c) <;> rfl

end Wanted

/-! ## The queue after the offers of one offer point -/

/-- The queue less its first `k` items that are no STOP_REQUEST. -/
def dropOthers : Nat → List Item → List Item
  | 0, is => is
  | k + 1, is => dropOthers k (dropOldestOther is)

theorem dropOldestOther_append (is : List Item) {i : Item} (h : i.isStop = true) :
    dropOldestOther (is ++ [i]) = dropOldestOther is ++ [i] := by
  induction is with
  | nil => simp [dropOldestOther, h]
  | cons j is ih =>
    simp only [List.cons_append, dropOldestOther, ih]
    split <;> rfl

theorem dropOthers_append (k : Nat) (is : List Item) {i : Item} (h : i.isStop = true) :
    dropOthers k (is ++ [i]) = dropOthers k is ++ [i] := by
  induction k generalizing is with
  | zero => rfl
  | succ k ih => rw [dropOthers, dropOthers, dropOldestOther_append is h, ih]

theorem dropOthers_cons_stop (k : Nat) {i : Item} (h : i.isStop = true) (is : List Item) :
    dropOthers k (i :: is) = i :: dropOthers k is := by
  induction k generalizing is with
  | zero => rfl
  | succ k ih => rw [dropOthers, dropOldestOther, if_pos h, ih, dropOthers]

/-- The items that are no STOP_REQUEST, and those that are. -/
def otherItems (is : List Item) : List Item := is.filter fun i => i.stopOf = none
def stopItems (is : List Item) : List Item := is.filter fun i => i.stopOf ≠ none

theorem stopOf_eq_none_of {i : Item} (h : ¬ i.isStop = true) : i.stopOf = none := by
  rw [Item.isStop_iff] at h
  exact not_not.1 h

theorem otherItems_cons (i : Item) (is : List Item) :
    otherItems (i :: is) = if i.isStop then otherItems is else i :: otherItems is := by
  by_cases h : i.isStop = true
  · simp [otherItems, h, (Item.isStop_iff i).1 h]
  · simp [otherItems, h, stopOf_eq_none_of h]

theorem stopItems_cons (i : Item) (is : List Item) :
    stopItems (i :: is) = if i.isStop then i :: stopItems is else stopItems is := by
  by_cases h : i.isStop = true
  · simp [stopItems, h, (Item.isStop_iff i).1 h]
  · simp [stopItems, h, stopOf_eq_none_of h]

theorem stopItems_append (is js : List Item) : stopItems (is ++ js) = stopItems is ++ stopItems js := List.filter_append ..

theorem length_stopItems_add (is : List Item) : (stopItems is).length + (otherItems is).length = is.length := by
  induction is with
  | nil => rfl
  | cons i is ih =>
    rw [stopItems_cons, otherItems_cons]
    split <;> simp only [List.length_cons] <;> omega

theorem stopItems_dropOldestOther (is : List Item) : stopItems (dropOldestOther is) = stopItems is := by
  induction is with
  | nil => rfl
  | cons i is ih =>
    rw [dropOldestOther, stopItems_cons]
    split
    · next h => rw [stopItems_cons, if_pos h, ih]
    · rfl

theorem stopItems_dropOthers (k : Nat) (is : List Item) : stopItems (dropOthers k is) = stopItems is := by
  induction k generalizing is with
  | zero => rfl
  | succ k ih => rw [dropOthers, ih, stopItems_dropOldestOther]

/-- The queue less its first `k` other items, as its two parts: that up to the last item removed, and the rest. -/
theorem dropOthers_split (k : Nat) (is : List Item) (h : k ≤ (otherItems is).length) :
    ∃ front back, is = front ++ back ∧ (otherItems front).length = k ∧ dropOthers k is = stopItems front ++ back := by
  induction is generalizing k with
  | nil =>
    obtain rfl : k = 0 := by simpa [otherItems] using h
    exact ⟨[], [], rfl, rfl, rfl⟩
  | cons i is ih =>
    rw [otherItems_cons] at h
    by_cases hi : i.isStop = true
    · rw [if_pos hi] at h
      obtain ⟨front, back, hs, hk, hd⟩ := ih k h
      refine ⟨i :: front, back, by rw [hs]; rfl, by rw [otherItems_cons, if_pos hi, hk], ?_⟩
      rw [dropOthers_cons_stop k hi, hd, stopItems_cons, if_pos hi]
      rfl
    · rw [if_neg hi] at h
      cases k with
      | zero => exact ⟨[], i :: is, rfl, rfl, rfl⟩
      | succ k =>
        obtain ⟨front, back, hs, hk, hd⟩ := ih k (by simpa using h)
        refine ⟨i :: front, back, by rw [hs]; rfl, by rw [otherItems_cons, if_neg hi, List.length_cons, hk], ?_⟩
        rw [dropOthers, dropOldestOther, if_neg hi, hd, stopItems_cons, if_neg hi]

theorem isStop_stopItem (c : Call) : (stopItem c).isStop = true := rfl

/-- Whether the head of the queue is no STOP_REQUEST. -/
def otherAtHead (is : List Item) : Bool := is.head?.any fun i => i.stopOf = none

theorem otherAtHead_cons (i : Item) (is : List Item) : otherAtHead (i :: is) = !i.isStop := by
  by_cases h : i.isStop = true
  · simp [otherAtHead, h, (Item.isStop_iff i).1 h]
  · simp [otherAtHead, h, stopOf_eq_none_of h]

/-- The line after `offers` of the offers have been taken and `lost` items have made way (R20, R132). -/
def Line.withOffers (offers lost : Nat) (cs : List Call) (l : Line) : Line :=
  { l with
    urgent := dropOthers lost l.urgent ++ (cs.take offers).map stopItem
    discards := min (l.discards + lost) 65535
    tx := if 0 < lost ∧ otherAtHead l.urgent = true then l.tx.map TxFrame.offUrgent else l.tx }

theorem Line.withOffers_zero {l : Line} (hd : l.discards ≤ 65535) (cs : List Call) : l.withOffers 0 0 cs = l := by
  simp [Line.withOffers, dropOthers, Nat.min_eq_left hd]

theorem Line.withOffers_room (c : Call) (cs : List Call) (offers lost : Nat) (l : Line) (h : lost = 0 ∨ l.urgent ≠ []) :
    ({ l with urgent := l.urgent ++ [stopItem c] } : Line).withOffers offers lost cs = l.withOffers (offers + 1) lost (c :: cs) := by
  have head : 0 < lost → otherAtHead (l.urgent ++ [stopItem c]) = otherAtHead l.urgent := fun hpos => by
    cases hu : l.urgent with
    | nil => exact absurd hu (h.resolve_left (by omega))
    | cons i is => rw [List.cons_append, otherAtHead_cons, otherAtHead_cons]
  have tx : (0 < lost ∧ otherAtHead (l.urgent ++ [stopItem c]) = true) = (0 < lost ∧ otherAtHead l.urgent = true) :=
    propext (and_congr_right fun hpos => by rw [head hpos])
  simp only [Line.withOffers, dropOthers_append _ _ (isStop_stopItem c), tx, List.take_succ_cons, List.map_cons, List.append_assoc,
    List.singleton_append]

theorem Line.withOffers_full (c : Call) (cs : List Call) (offers lost : Nat) (l : Line) (hd : l.discards ≤ 65535)
    (h : l.urgent.all Item.isStop = false) :
    ({ l with
      urgent := dropOldestOther l.urgent ++ [stopItem c]
      tx := if l.urgent.head?.any Item.isStop then l.tx else headRemoved l.tx
      discards := satSucc Config.countTop l.discards } : Line).withOffers offers lost cs
        = l.withOffers (offers + 1) (lost + 1) (c :: cs) := by
  have discards : min (satSucc Config.countTop l.discards + lost) 65535 = min (l.discards + (lost + 1)) 65535 := by
    simp only [satSucc, Config.countTop]
    omega
  have tx : (if 0 < lost ∧ otherAtHead (dropOldestOther l.urgent ++ [stopItem c]) = true then
        (if l.urgent.head?.any Item.isStop then l.tx else headRemoved l.tx).map TxFrame.offUrgent
      else if l.urgent.head?.any Item.isStop then l.tx else headRemoved l.tx)
      = if 0 < lost + 1 ∧ otherAtHead l.urgent = true then l.tx.map TxFrame.offUrgent else l.tx := by
    cases hu : l.urgent with
    | nil => simp [hu] at h
    | cons i is =>
      rw [otherAtHead_cons, List.head?_cons, Option.any_some, headRemoved_eq]
      by_cases hi : i.isStop = true
      · rw [dropOldestOther, if_pos hi, List.cons_append, otherAtHead_cons]
        simp [hi]
      · simp only [hi, Bool.not_false, Nat.succ_pos, and_self, if_true, Bool.false_eq_true, if_false, map_offUrgent_idem, ite_self]
  unfold Line.withOffers
  rw [← discards, ← tx]
  simp only [dropOthers_append _ _ (isStop_stopItem c), dropOthers, List.take_succ_cons, List.map_cons, List.append_assoc,
    List.singleton_append]

/-- The offers taken at one offer point: as many as there are places of the queue's 16 without a STOP_REQUEST. -/
def offersTaken (l : Line) (n : Nat) : Nat := min n (16 - (stopItems l.urgent).length)

/-- The items that make way for them. -/
def itemsLost (l : Line) (n : Nat) : Nat := l.urgent.length + offersTaken l n - 16

/-- The offers of one offer point (R20, R132): each one taken adds a STOP_REQUEST, and in a full queue removes another item. -/
theorem offerAll_eq (cs : List Call) (l : Line) (hl : l.urgent.length ≤ 16) (hd : l.discards ≤ 65535) :
    Line.offerAll cs l = l.withOffers (offersTaken l cs.length) (itemsLost l cs.length) cs := by
  induction cs generalizing l with
  | nil =>
    have taken : offersTaken l 0 = 0 := by simp [offersTaken]
    have lost : itemsLost l 0 = 0 := by simp only [itemsLost, taken]; omega
    rw [List.length_nil, taken, lost, Line.withOffers_zero hd]
    rfl
  | cons c cs ih =>
    have count := length_stopItems_add l.urgent
    have one : (stopItems [stopItem c]).length = 1 := rfl
    rw [Line.offerAll, List.length_cons]
    rcases Line.offerStop_cases (stopItem c) l with ⟨room, h⟩ | ⟨full, all, h⟩ | ⟨full, other, h⟩
    · have taken : offersTaken l (cs.length + 1) = offersTaken { l with urgent := l.urgent ++ [stopItem c] } cs.length + 1 := by
        simp only [offersTaken, stopItems_append, List.length_append, one]
        omega
      have lost : itemsLost l (cs.length + 1) = itemsLost { l with urgent := l.urgent ++ [stopItem c] } cs.length := by
        simp only [itemsLost, taken, List.length_append, List.length_singleton]
        omega
      have nonempty : itemsLost l (cs.length + 1) = 0 ∨ l.urgent ≠ [] := by
        by_cases hu : l.urgent = []
        · refine Or.inl ?_
          simp only [itemsLost, offersTaken, hu, List.length_nil]
          omega
        · exact Or.inr hu
      rw [h, taken, ← Line.withOffers_room c cs _ _ l nonempty, lost]
      exact ih { l with urgent := l.urgent ++ [stopItem c] } (by simp only [List.length_append, List.length_singleton]; omega) hd
    · have stops : (stopItems l.urgent).length = l.urgent.length := by
        rw [stopItems, List.filter_eq_self.2 fun i hi => by simpa [Item.isStop_iff] using List.all_eq_true.1 all i hi]
      have taken : offersTaken l (cs.length + 1) = 0 := by simp only [offersTaken, stops]; omega
      have lost : itemsLost l (cs.length + 1) = 0 := by simp only [itemsLost, taken]; omega
      rw [h, taken, lost, Line.withOffers_zero hd]
    · have shorter : (dropOldestOther l.urgent).length + 1 = l.urgent.length := dropOldestOther_length other
      have someOther : (stopItems l.urgent).length < 16 := by
        have kept := congrArg List.length (stopItems_dropOldestOther l.urgent)
        have rest := length_stopItems_add (dropOldestOther l.urgent)
        omega
      have taken : offersTaken l (cs.length + 1) = offersTaken { l with
          urgent := dropOldestOther l.urgent ++ [stopItem c]
          tx := if l.urgent.head?.any Item.isStop then l.tx else headRemoved l.tx
          discards := satSucc Config.countTop l.discards } cs.length + 1 := by
        simp only [offersTaken, stopItems_append, stopItems_dropOldestOther, List.length_append, one]
        omega
      have lost : itemsLost l (cs.length + 1) = itemsLost { l with
          urgent := dropOldestOther l.urgent ++ [stopItem c]
          tx := if l.urgent.head?.any Item.isStop then l.tx else headRemoved l.tx
          discards := satSucc Config.countTop l.discards } cs.length + 1 := by
        simp only [itemsLost, taken, List.length_append, List.length_singleton]
        omega
      rw [h, taken, lost, ← Line.withOffers_full c cs _ _ l hd other]
      exact ih _ (by simp only [List.length_append, List.length_singleton]; omega) (satSucc_le _ _)

end Sys2Proof.Machine


/-! Stops wanted and offered: the statements of a cause of a stop, of an offer point, and of a press of the button. -/

namespace Sys2Proof.Machine

-- One theorem at a time: the whole text is checked in one process.
set_option Elab.async false

/-- A stop asked for, by the approach time of the call: WANTED before the request cut-off, with an offer, or LATE (R19, R20). -/
theorem wantStop_of_approach {s : State} (good : GoodBank s.calls.active) {c : Call} (hc : c ∈ s.calls.active) {a : Nat}
    (kind : c.kind = .request) (stop : c.stop = .none) (ha : approach c = some a) (o : Origin) : wantStop c.service o s =
      let asked : State := { s with calls := { s.calls with active := s.calls.active.map fun d =>
        if d.service = c.service then { c with
          stop := if s.clock.time.sec + s.line.params.requestMargin < a then .wanted else .late
          origin := some o
          wantedAt := some s.clock.time.sec } else d } }
      if s.clock.time.sec + s.line.params.requestMargin < a then offerStops asked else asked := by
  have early : isBefore s.now (requestCutoff s.line.params c) = decide (s.clock.time.sec + s.line.params.requestMargin < a) := by
    rw [isBefore_requestCutoff, ha, Option.any_some]
    rfl
  rw [wantStop_of_mem good hc o kind stop]
  simp only [stopFrom, early, decide_eq_true_eq]
  rfl

/-! ## An offer point -/

/-- A call that waits, in the words of R20. -/
theorem waitsForStop_eq (queue : List Item) (c : Call) :
    waitsForStop queue c = ((c.state = .scheduled || c.state = .due || c.state = .arrived) && c.stop = .wanted &&
      queue.all fun i => i.stopOf ≠ some c.service) := by
  have queued : (!queue.any (Item.isStopFor c.service)) = queue.all fun i => i.stopOf ≠ some c.service := by
    rw [List.not_any_eq_all_not]
    refine congrArg queue.all (funext fun i => ?_)
    cases i <;> simp [Item.isStopFor, Item.stopOf]
  rw [waitsForStop, queued]
  cases c.state <;> rfl

/-- The waiting calls stand in the order of approach time and service number. -/
theorem waitingCalls_pairwise {s : State} (good : GoodBank s.calls.active) :
    (waitingCalls s).Pairwise fun c d => c.service ≠ d.service ∧ ∀ a b, approach c = some a → approach d = some b →
      a < b ∨ (a = b ∧ c.service ≤ d.service) := by
  have services : (waitingCalls s).Pairwise fun c d => c.service ≠ d.service :=
    ((good.sorted.imp Nat.ne_of_lt).filter _).perm (sortBy_perm _ _).symm Ne.symm
  exact services.and <| (sortBy_pairwise _ (timeThenService_trans _) (timeThenService_total _) _).imp
    fun h x y hx hy => timeThenService_of_some hx hy h

theorem length_dropOthers (k : Nat) (is : List Item) (h : k ≤ (otherItems is).length) : (dropOthers k is).length + k = is.length := by
  obtain ⟨front, back, his, hk, hd⟩ := dropOthers_split k is h
  have split := length_stopItems_add front
  rw [hd, his, List.length_append, List.length_append]
  omega

theorem stopItems_map_stopItem (cs : List Call) : stopItems (cs.map stopItem) = cs.map stopItem :=
  List.filter_eq_self.2 fun i hi => by
    obtain ⟨c, -, rfl⟩ := List.mem_map.1 hi
    rfl

section Room

variable {l : Line} (room : l.urgent.length ≤ 16)
include room

theorem itemsLost_le (n : Nat) : itemsLost l n ≤ (otherItems l.urgent).length := by
  have split := length_stopItems_add l.urgent
  simp only [itemsLost, offersTaken]
  omega

/-- An offer that is not taken leaves a queue of 16 STOP_REQUEST items. -/
theorem withOffers_all_stops {cs : List Call} (h : offersTaken l cs.length < cs.length) :
    (l.withOffers (offersTaken l cs.length) (itemsLost l cs.length) cs).urgent.length = 16 ∧
    otherItems (l.withOffers (offersTaken l cs.length) (itemsLost l cs.length) cs).urgent = [] := by
  have split := length_stopItems_add l.urgent
  have dropped := length_dropOthers _ _ (itemsLost_le room cs.length)
  have offered : ((cs.take (offersTaken l cs.length)).map stopItem).length = offersTaken l cs.length := by
    rw [List.length_map, List.length_take, Nat.min_eq_left (Nat.le_of_lt h)]
  have taken : offersTaken l cs.length = 16 - (stopItems l.urgent).length := by
    simp only [offersTaken] at h ⊢
    omega
  have size : (l.withOffers (offersTaken l cs.length) (itemsLost l cs.length) cs).urgent.length = 16 := by
    rw [Line.withOffers, List.length_append, offered]
    simp only [itemsLost] at dropped ⊢
    omega
  refine ⟨size, List.eq_nil_of_length_eq_zero ?_⟩
  have stops : (stopItems (l.withOffers (offersTaken l cs.length) (itemsLost l cs.length) cs).urgent).length = 16 := by
    rw [Line.withOffers, stopItems_append, stopItems_dropOthers, stopItems_map_stopItem, List.length_append, offered]
    omega
  have whole := length_stopItems_add (l.withOffers (offersTaken l cs.length) (itemsLost l cs.length) cs).urgent
  omega

end Room

/-- Settles O48: a cause of a stop by the stop state of the call (`wantStop_of_approach`), and the offers of one offer point by
`offerAll_eq`, the queue split behind the last item that made way (`dropOthers_split`). -/
theorem stopsWantedAndOffered : Obligations.StopsWantedAndOffered := by
  unfold Obligations.StopsWantedAndOffered
  refine ⟨fun n o s good => ⟨fun c a hc hn kind stop ha => ⟨fun early => ?wanted, fun late => ?late⟩, fun others => ?untouched⟩,
    fun s good room count => ?offers⟩
  case wanted =>
    subst hn
    rw [wantStop_of_approach good hc kind stop ha]
    simp only [if_pos early]
  case late =>
    subst hn
    rw [wantStop_of_approach good hc kind stop ha]
    simp only [if_neg late]
  case untouched =>
    have takes : takesStop n s = false := call_any_false fun c hc hn => by
      rcases others c hc hn with kind | stop
      · simp [kind]
      · simp [stop]
    rw [wantStop, takes]
    rfl
  case offers =>
    obtain ⟨front, back, split, lost, dropped⟩ := dropOthers_split _ _ (itemsLost_le room (waitingCalls s).length)
    refine ⟨waitingCalls s, front, back, ?perm, waitingCalls_pairwise good, split, lost, ?state, fun h => ?full⟩
    case perm =>
      rw [← List.filter_congr fun c _ => waitsForStop_eq s.line.urgent c]
      exact sortBy_perm _ _
    case state =>
      rw [offerStops, offerAll_eq _ _ room count, Line.withOffers, dropped]
      rfl
    case full =>
      rw [offerStops_line, offerAll_eq _ _ room count]
      exact withOffers_all_stops room h

/-! ## The press of the button -/

section Press

variable {s : State}

theorem pressAccepted_iff : pressAccepted s = true ↔ ∀ t, s.platform.lastPress = some t → t + 16 ≤ s.clock.crystal := by
  rw [pressAccepted, Option.all_eq_true]
  exact forall₂_congr fun t _ => decide_eq_true_iff

/-- The state once a press has been recorded (R164). -/
def pressed (s : State) : State :=
  { s with
    platform := { s.platform with lastPress := some s.clock.crystal, buttonDemand := some 1920 }
    sport := s.sport.latch 0x0008#16 }

theorem exec_buttonPress_of (h : pressAccepted s = true) : exec .buttonPress s =
    match boundCall s with
    | some c =>
      if takesStop c.service (pressed s) then .next (rebuild (wantStop c.service .button (pressed s)))
      else .next (evalDemand (pressed s))
    | none => .next (evalDemand (pressed s)) := if_pos h

/-- A call a press can bind, in the words of R165. -/
def FitsButton (s : State) (c : Call) (a : Nat) : Prop :=
  c ∈ s.calls.active ∧ c.kind = .request ∧ (c.state = .scheduled ∨ c.state = .due) ∧ approach c = some a ∧
    s.clock.time.sec ≤ a ∧ a ≤ s.clock.time.sec + 3600

theorem mem_bindable {c : Call} : c ∈ s.calls.active.filter (bindable s.now) ↔ ∃ a, FitsButton s c a := by
  rw [List.mem_filter]
  cases h : approach c with
  | none => simp [bindable, FitsButton, h]
  | some a =>
    have fits : bindable s.now c = true ↔
        (c.kind = .request ∧ (c.state = .scheduled ∨ c.state = .due)) ∧ s.now ≤ a ∧ a ≤ s.now + 3600 := by
      simp only [bindable, h, CallState.isOpen_eq, Option.any_some, Bool.and_eq_true, Bool.or_eq_true, decide_eq_true_eq]
      rfl
    rw [fits]
    refine ⟨fun ⟨hc, ⟨hk, hs⟩, hb⟩ => ⟨a, hc, hk, hs, h, hb⟩, fun ⟨b, hc, hk, hs, hb, hr⟩ => ⟨hc, ⟨hk, hs⟩, ?_⟩⟩
    obtain rfl := Option.some.inj (h.symm.trans hb)
    exact hr

theorem boundCall_none (h : s.clock.timeState = .unset ∨ ∀ c a, ¬ FitsButton s c a) : boundCall s = none := by
  rw [boundCall]
  split
  · next set =>
    rw [head?_sortBy_eq_none_iff, List.eq_nil_iff_forall_not_mem]
    intro c hc
    obtain ⟨a, ha⟩ := mem_bindable.1 hc
    rcases h with unset | no
    · simp [State.timeSet, unset] at set
    · exact no c a ha
  · rfl

/-- The call a press binds is the first that fits. -/
theorem boundCall_some (good : GoodBank s.calls.active) (set : s.clock.timeState ≠ .unset) {c : Call} {a : Nat} (h : FitsButton s c a)
    (first : ∀ d b, FitsButton s d b → a < b ∨ (a = b ∧ c.service ≤ d.service)) : boundCall s = some c := by
  rw [boundCall, if_pos (by simp [State.timeSet, set])]
  have fits := mem_bindable.2 ⟨a, h⟩
  cases hd : (sortBy (timeThenService approach) (s.calls.active.filter (bindable s.now))).head? with
  | none =>
    rw [head?_sortBy_eq_none_iff] at hd
    simp [hd] at fits
  | some d =>
    obtain ⟨b, hb⟩ := mem_bindable.1 (mem_of_head?_sortBy hd)
    have before := timeThenService_of_some hb.2.2.2.1 h.2.2.2.1
      (le_of_head?_sortBy (timeThenService_trans _) (timeThenService_total _) hd fits)
    have after := first d b hb
    exact congrArg some (good.unique hb.1 h.1 (by omega))

end Press

/-- Settles O14: the call bound is the first that fits (`boundCall_some`), and a stop is asked for in its name. -/
theorem buttonPress : Obligations.ButtonPress := by
  unfold Obligations.ButtonPress
  refine fun s good => ⟨fun old => ?ignored, fun isNew no => ?unbound, fun isNew set c a h first => ?bound⟩
  case ignored => exact if_neg fun h => old (pressAccepted_iff.1 h)
  case unbound => rw [exec_buttonPress_of (pressAccepted_iff.2 isNew), boundCall_none no]; rfl
  case bound =>
    have decided : takesStop c.service (pressed s) = decide (c.stop = .none) := by
      rw [takesStop_of_mem (s := pressed s) good h.1, h.2.1]
      rfl
    have hexec : exec .buttonPress s = if takesStop c.service (pressed s) then
        .next (rebuild (wantStop c.service .button (pressed s))) else .next (evalDemand (pressed s)) := by
      rw [exec_buttonPress_of (pressAccepted_iff.2 isNew), boundCall_some good set h first]
    rw [hexec, decided]
    refine ⟨fun stop => if_neg (by simp [stop]), fun stop => ?_⟩
    have asked := congrArg (fun u => Host.Outcome.next (φ := Fault) (ρ := Refusal) (rebuild u))
      (wantStop_of_approach (s := pressed s) good h.1 h.2.1 stop h.2.2.2.1 .button)
    rw [if_pos (decide_eq_true stop)]
    exact ⟨fun early => asked.trans (congrArg (fun u => Host.Outcome.next (rebuild u)) (if_pos early)),
      fun late => asked.trans (congrArg (fun u => Host.Outcome.next (rebuild u)) (if_neg late))⟩

end Sys2Proof.Machine


/-! The arithmetic of calls, of the board and of demand: the recomputed times (R28 to R31), the rows of a board (R41 to R47), a
build event (R49) and the evaluation of demand (R175, R176). -/

namespace Sys2Proof.Machine

-- One theorem at a time: the whole text is checked in one process.
set_option Elab.async false

/-! ## Expected times -/

/-- The delay less the recovery allowance of the point of the notice (R28). -/
theorem max_sub_allowance {delay : Int} (h : 0 < delay) (points : List (Nat × Nat)) (point : Nat) :
    max (delay - allowance points point) 0 = match points.find? fun q => q.1 = point with
      | some q => max (delay - q.2) 0
      | none => delay := by
  rw [allowance]
  cases points.find? fun q => q.1 = point with
  | none => exact (congrArg (max · 0) (Int.sub_zero delay)).trans (max_eq_left (Int.le_of_lt h))
  | some q => rfl

theorem effectiveDelay_eq (points : List (Nat × Nat)) (notice : Option DelayNotice) : effectiveDelay points notice =
    match notice with
    | none => 0
    | some n =>
      if 0 < n.delay then
        match points.find? fun q => q.1 = n.point with
        | some q => max (n.delay - q.2) 0
        | none => n.delay
      else max n.delay (-300) := by
  cases notice with
  | none => rfl
  | some n =>
    simp only [effectiveDelay]
    split
    · next h => exact max_sub_allowance h points n.point
    · rfl

/-- Settles O23: the formula of each state. -/
theorem expectedTimes : Obligations.ExpectedTimes := by
  unfold Obligations.ExpectedTimes
  intro c e day
  have delay : effectiveDelay c.points c.notice = e := effectiveDelay_eq c.points c.notice
  refine ⟨fun ⟨arrived, departed⟩ => ?before, fun aa state h => recompute_arrived c aa state h, fun ad state h => ?departed⟩
  case before =>
    have before : recompute c = beforeArrival c := by
      cases state : c.state <;> simp [recompute, state] at arrived departed ⊢
    refine ⟨fun sa h => ?_, fun h => ?_⟩
    · simp only [before, beforeArrival, h, delay, heldInDay_eq, pastDay_eq]
      rfl
    · simp only [before, beforeArrival, h, delay]
      rfl
  case departed =>
    rw [recompute_departed c ad state h]
    cases c.sa <;> rfl

/-! ## The rows of a board -/

/-- A candidate for the board, in the words of R42. -/
theorem candidate_eq (p : Params) (now : Nat) (c : Call) : candidate p now c =
    ((c.state = .scheduled || c.state = .due || c.state = .arrived ||
        (c.state = .cancelled && (c.sd.or c.sa).any fun t => now < t + 60 * p.cancelledHold)) &&
      (boardTime c).any fun b => b ≤ now + 60 * p.boardHorizon) := by
  have shown : isBefore now (displayEnd p c) = (c.sd.or c.sa).any fun t => decide (now < t + 60 * p.cancelledHold) := by
    cases h : c.sd.or c.sa <;> simp [isBefore, displayEnd, h]
    omega
  have saleable : c.state.saleable = (decide (c.state = .scheduled) || decide (c.state = .due) || decide (c.state = .arrived)) := by
    cases c.state <;> rfl
  rw [candidate, boardState, shown, saleable, isReached_horizonEntry]

/-- The row of a call, in the words of R45 to R47. -/
theorem rowOf_eq (p : Params) (ts : TimeState) (now : Nat) (c : Call) : rowOf p ts now c =
    { service := c.service
      dest := c.dest
      schedMinute := schedMinute c
      expMinute := expMinute c
      status := rowStatus p c
      lateMinutes := min (expMinute c - schedMinute c) 999
      flags :=
        { requestStop := c.kind = .request
          stopConfirmed := c.stop = .confirmed
          stopPending := c.stop = .wanted || c.stop = .sent
          handSignal := c.stop = .late
          unconfirmed := ts = .holdover || c.notice.any fun n => n.report + p.stalenessLimit < now
          terminates := c.sd = none
          beyondDay := c.beyond } } := by
  have terminates : c.sd.isNone = decide (c.sd = none) := by cases c.sd <;> rfl
  rw [rowOf, rowFlags, isStale_eq, terminates]

/-- Settles O25: the candidates sorted by board time and service number, and the rows of the first six. -/
theorem boardRows : Obligations.BoardRows := by
  unfold Obligations.BoardRows
  intro p ts now bank set shown sched expected
  refine ⟨sortBy (timeThenService boardTime) (bank.filter (candidate p now)), ?perm, ?order, ?rows⟩
  case perm =>
    rw [List.filter_congr fun c _ => candidate_eq p now c]
    exact sortBy_perm _ _
  case order =>
    exact (sortBy_pairwise _ (timeThenService_trans _) (timeThenService_total _) _).imp
      fun h x y hx hy => timeThenService_of_some hx hy h
  case rows =>
    rw [boardRowsOf, if_neg set]
    exact List.map_congr_left fun c _ => rowOf_eq p ts now c

/-! ## A build event and demand -/

section Demand

variable (s : State)

/-- A build event (R49), in the words of the rule. -/
theorem rebuild_eq : rebuild s = if buildBoard s = s.board.board then evalDemand s else
    evalDemand { s with
      board := { board := buildBoard s, revision := s.board.revision + 1 }
      sport := if s.sport.held then s.sport else { s.sport with notices := s.sport.notices ||| 0x0001#16 } } := by
  rw [rebuild, newBoard]
  split <;> rfl

theorem buildBoard_eq : buildBoard s =
    { condition := s.line.condition
      textCode := s.line.textCode
      notSet := decide (s.clock.timeState = .unset)
      rows := if s.clock.timeState = .unset then []
        else boardRowsOf s.line.params s.clock.timeState s.clock.time.sec s.calls.active } := by
  split
  · next unset => rw [buildBoard, boardRowsOf, if_pos unset]
  · rfl

/-- Demand by the mode (R175). -/
theorem demand_eq : demand s = (decide (s.screen.mode = .on) || (decide (s.screen.mode = .auto) &&
    ((s.board.board.rows.any fun r => (bankFind r.service s.calls.active).any fun c =>
        (boardTime c).any fun b => b ≤ s.clock.time.sec + 60 * s.line.params.wakeWindow) ||
      s.board.board.rows.any (fun r => r.status = .atPlatform) || s.issue.sale.isSome ||
      s.issue.quoteDemand.isSome || s.platform.buttonDemand.isSome || s.line.condition != .normal))) := by
  have near : trainNear s = s.board.board.rows.any fun r => (bankFind r.service s.calls.active).any fun c =>
      (boardTime c).any fun b => b ≤ s.clock.time.sec + 60 * s.line.params.wakeWindow := by
    simp only [trainNear, State.call, isReached_wakeEntry]
    rfl
  rw [demand, near, trainAtPlatform]
  cases s.screen.mode <;> rfl

end Demand

/-- Settles O26: a build compares the board with the one it replaces, and demand acts by the supply state. -/
theorem boardAndDemand : Obligations.BoardAndDemand := by
  unfold Obligations.BoardAndDemand
  refine ⟨fun s => ?build, fun low s => ?demand⟩
  case build =>
    simp only [← buildBoard_eq]
    exact ⟨fun same => (rebuild_eq s).trans (if_pos same), fun differs => (rebuild_eq s).trans (if_neg differs)⟩
  case demand =>
    intro near auto wanted
    have hwanted : demand s = wanted := demand_eq s
    refine ⟨fun h => by rw [evalDemand, h], fun supply h => ?rests, fun supply h on => ?settles, fun supply h off => ?powers,
      fun supply => ?lit, fun ⟨dark, lit⟩ => ?other⟩
    case rests => simp only [evalDemandAt, supply, hwanted, h, Bool.false_eq_true, if_false]
    case settles => simp only [evalDemandAt, supply, hwanted, h, if_true, wake, on]; rfl
    case powers => simp only [evalDemandAt, supply, hwanted, h, if_true, wake, off, Bool.false_eq_true, if_false]; rfl
    case lit =>
      simp only [evalDemandAt, supply, hwanted, idleByDemand]
      cases s.screen.idleTimer <;> rfl
    case other => cases supply : s.screen.supply <;> simp [evalDemandAt, supply] at dark lit ⊢

end Sys2Proof.Machine


/-! The crystal tick (R51, R57, R61), and the discipline of the queues with the causes of a STATUS (R131, R132, R148). -/

namespace Sys2Proof.Machine

-- One theorem at a time: the whole text is checked in one process.
set_option Elab.async false

/-! ## The clock of a crystal tick -/

/-- The counter one tick on, by its parts (R51). -/
theorem nextTime_eq {t : TimeOfDay} (h : t.InRange) : nextTime t =
    if t.tick < 15 then { t with tick := t.tick + 1 }
    else if t.sec < 86399 then { sec := t.sec + 1, tick := 0 }
    else { sec := 0, tick := 0 } := by
  obtain ⟨hsec, htick⟩ : t.sec ≤ 86399 ∧ t.tick ≤ 15 := h
  rw [nextTime, TimeOfDay.ofTicks_eq, TimeOfDay.ticks]
  split
  · congr 1 <;> omega
  · split <;> congr 1 <;> omega

/-- The clock at one tick, by whether this tick advances it (R51, R57). -/
theorem tickClock_eq (c : Clock) : tickClock c = { c with
    slew := if advances c then c.slew else c.slew - 1
    slewHalf := !advances c
    time := if !advances c then c.time else nextTime c.time } := by
  rw [tickClock]
  cases advances c <;> rfl

theorem wrapsNow_iff {s : State} : wrapsNow s = true ↔
    advances s.clock = true ∧ s.clock.time.sec = 86399 ∧ s.clock.time.tick = 15 ∧ s.clock.timeState ≠ .unset := by
  simp only [wrapsNow, atDayEnd, State.timeSet, Bool.and_eq_true, decide_eq_true_eq, bne_iff_ne, and_assoc]
  rfl

/-- A crystal tick at which no set clock wraps, the whole state after it. -/
theorem crystalStep_eq {s : State} (h : wrapsNow s = false) : crystalStep s = { tickTimers s with
    clock := tickClock (tickTimers s).clock } := by
  rw [crystalStep, h]
  rfl

/-- Settles O15: no set clock wraps, and each timer counts down. -/
theorem crystalTickCounts : Obligations.CrystalTickCounts := by
  unfold Obligations.CrystalTickCounts
  intro s inRange moves less c stays
  have noWrap : wrapsNow s = false := Bool.eq_false_iff.2 fun wraps => stays (wrapsNow_iff.1 wraps)
  have clock : tickClock (tickTimers s).clock = _ := tickClock_eq (tickTimers s).clock
  refine congrArg Host.Outcome.next ((crystalStep_eq noWrap).trans ?_)
  rw [clock]
  simp only [tickTimers, nextTime_eq inRange]
  rfl

/-! ## A slew -/

/-- A pair of ticks of a slew: the time gains one tick, and the deficit loses one (R57). -/
theorem tickClock_pair {c : Clock} (half : c.slewHalf = false) {d : Nat} (slew : c.slew = d + 1) :
    tickClock (tickClock c) = { c with slew := d, time := nextTime c.time } := by
  have first : tickClock c = { c with slew := d, slewHalf := true } := by
    rw [tickClock, advances, half, slew]
    rfl
  rw [first, tickClock, if_pos (by simp [advances]), ← half]

theorem nextTime_ticks {t : TimeOfDay} (d : Nat) :
    TimeOfDay.ofTicks ((nextTime t).ticks + d) = TimeOfDay.ofTicks (t.ticks + (d + 1)) := by
  simp only [nextTime, TimeOfDay.ofTicks_eq, TimeOfDay.ticks]
  congr 1 <;> omega

theorem ofTicks_ticks {t : TimeOfDay} (h : t.InRange) : TimeOfDay.ofTicks t.ticks = t := by
  obtain ⟨hsec, htick⟩ : t.sec ≤ 86399 ∧ t.tick ≤ 15 := h
  rw [TimeOfDay.ofTicks_eq, TimeOfDay.ticks]
  cases t
  congr 1 <;> simp only at hsec htick ⊢ <;> omega

/-- A deficit is spent in twice as many ticks, whatever counts them. -/
theorem foldl_tickClock {c : Clock} (half : c.slewHalf = false) (inRange : c.time.InRange) (ticks : List Nat)
    (h : ticks.length = 2 * c.slew) : ticks.foldl (fun d _ => tickClock d) c
      = { c with slew := 0, time := TimeOfDay.ofTicks (c.time.ticks + c.slew) } := by
  generalize hd : c.slew = d at h
  induction d generalizing c ticks with
  | zero =>
    obtain rfl := List.eq_nil_of_length_eq_zero h
    rw [List.foldl_nil, Nat.add_zero, ofTicks_ticks inRange, ← hd]
  | succ d ih =>
    match ticks, h with
    | _ :: _ :: ticks, h =>
      have rest := ih (c := { c with slew := d, time := nextTime c.time }) half (TimeOfDay.ofTicks_inRange _) ticks rfl
        (by simp only [List.length_cons] at h; omega)
      rw [List.foldl_cons, List.foldl_cons, tickClock_pair half hd, rest, nextTime_ticks]

/-- Settles O16, by induction on the deficit. -/
theorem slewIsSpent : Obligations.SlewIsSpent := by
  unfold Obligations.SlewIsSpent
  exact fun c half inRange => foldl_tickClock half inRange _ (List.length_range ..)

/-! ## The queues -/

section Queues

variable {l : Line} {i : Item}

theorem enqueue_urgent_room (h : l.urgent.length < 16) : l.enqueue .urgent i = { l with urgent := l.urgent ++ [i] } := by
  simp [Line.enqueue, Line.hasRoom, Config.urgentSize, h]

theorem enqueue_urgent_full (h : 16 ≤ l.urgent.length) :
    l.enqueue .urgent i = { l with discards := satSucc Config.countTop l.discards } := by
  simp [Line.enqueue, Line.hasRoom, Config.urgentSize, Nat.not_lt.2 h]

theorem enqueue_routine_room (h : l.routine.length < 32) : l.enqueue .routine i = { l with routine := l.routine ++ [i] } := by
  simp [Line.enqueue, Line.hasRoom, Config.routineSize, h]

theorem enqueue_routine_full (h : 32 ≤ l.routine.length) :
    l.enqueue .routine i = { l with discards := satSucc Config.countTop l.discards } := by
  simp [Line.enqueue, Line.hasRoom, Config.routineSize, Nat.not_lt.2 h]

/-- One more, up to the top of a counter. -/
theorem satSucc_countTop (n : Nat) : satSucc Config.countTop n = if n < 65535 then n + 1 else 65535 := satSucc_eq _ n

theorem all_isStop_iff {is : List Item} : is.all Item.isStop = true ↔ ∀ j ∈ is, j.stopOf ≠ none := by
  simp only [List.all_eq_true, Item.isStop_iff]

/-- The oldest item that is no STOP_REQUEST is the first behind STOP_REQUEST items alone. -/
theorem dropOldestOther_split {front back : List Item} {j : Item} (hf : ∀ x ∈ front, x.stopOf ≠ none) (hj : j.stopOf = none) :
    dropOldestOther (front ++ j :: back) = front ++ back := by
  induction front with
  | nil => rw [List.nil_append, dropOldestOther, if_neg (by simp [Item.isStop_iff, hj]), List.nil_append]
  | cons x front ih =>
    rw [List.cons_append, dropOldestOther, if_pos ((Item.isStop_iff x).2 (hf x (List.mem_cons_self ..))),
      ih fun y hy => hf y (List.mem_cons_of_mem _ hy), List.cons_append]

theorem offerStop_room (h : l.urgent.length < 16) : l.offerStop i = some { l with urgent := l.urgent ++ [i] } := if_pos h

theorem offerStop_stops (h : 16 ≤ l.urgent.length) (all : ∀ j ∈ l.urgent, j.stopOf ≠ none) : l.offerStop i = none :=
  (if_neg (Nat.not_lt.2 h)).trans (if_pos (all_isStop_iff.2 all))

/-- The withdrawal mark of the frame on the line does not survive a comparison that disregards it. -/
theorem headRemoved_withdrawn (tx : Option TxFrame) : (headRemoved tx).map TxFrame.withdrawn = tx.map TxFrame.withdrawn := by
  cases tx with
  | none => rfl
  | some f =>
    simp only [headRemoved, Option.map_some]
    split <;> rfl

theorem offerStop_other {front back : List Item} {j : Item} (hu : l.urgent = front ++ j :: back) (h : 16 ≤ l.urgent.length)
    (hf : ∀ x ∈ front, x.stopOf ≠ none) (hj : j.stopOf = none) : l.offerStop i = some { l with
      urgent := front ++ back ++ [i]
      tx := if l.urgent.head?.any Item.isStop then l.tx else headRemoved l.tx
      discards := satSucc Config.countTop l.discards } := by
  have other : ¬ l.urgent.all Item.isStop = true := fun all =>
    all_isStop_iff.1 all j (by rw [hu]; exact List.mem_append_right _ (List.mem_cons_self ..)) hj
  refine (if_neg (Nat.not_lt.2 h)).trans ((if_neg other).trans ?_)
  rw [← dropOldestOther_split hf hj, ← hu]

end Queues

/-! ## The causes of a STATUS -/

section Status

variable {s : State}

theorem statusQueued_iff {l : Line} : l.statusQueued = true ↔ Item.status ∈ l.urgent ∨ Item.status ∈ l.routine := by
  have one (i : Item) : i.isStatus = true ↔ i = .status := by cases i <;> simp [Item.isStatus]
  simp [Line.statusQueued, one]

theorem carriesStatus_iff (f : TxFrame) :
    f.carriesStatus = true ↔ f.source = .urgentItem .status ∨ f.source = .routineItem .status := by
  unfold TxFrame.carriesStatus
  split <;> simp_all

theorem statusSending_iff {l : Line} : (l.tx.any fun f => f.carriesStatus && f.queued) = true ↔
    ∃ f, l.tx = some f ∧ f.queued = true ∧ (f.source = .urgentItem .status ∨ f.source = .routineItem .status) := by
  simp only [Option.any_eq_true, Bool.and_eq_true, carriesStatus_iff, and_comm]

end Status

/-- Settles O47: each offer by the room of the queue, and a cause of a STATUS by what is queued and what is on the line. -/
theorem queuesAndStatus : Obligations.QueuesAndStatus := by
  unfold Obligations.QueuesAndStatus
  refine ⟨fun l i => ⟨enqueue_urgent_room, fun h _ => ?urgent, enqueue_routine_room, fun h _ => ?routine, offerStop_room,
    offerStop_stops, fun front j back hu h _ hf hj => ?other⟩,
    fun s => ⟨fun idle => ?idle, fun queued sending => ?owed, fun queued idle => ?nothing, fun link timer => ?period⟩⟩
  case urgent => rw [enqueue_urgent_full h, satSucc_countTop]
  case routine => rw [enqueue_routine_full h, satSucc_countTop]
  case other =>
    refine ⟨_, offerStop_other hu h hf hj, by rw [satSucc_countTop], fun nonempty => ?_, ?_⟩
    · obtain ⟨x, front, rfl⟩ := List.exists_cons_of_ne_nil nonempty
      exact if_pos (by simp [hu, (Item.isStop_iff x).2 (hf x (List.mem_cons_self ..))])
    · split
      · rfl
      · exact headRemoved_withdrawn l.tx
  case idle =>
    have none : s.line.statusQueued = false := Bool.eq_false_iff.2 fun h => idle (statusQueued_iff.1 h)
    rw [statusCause, Line.statusCause, none]
    rfl
  case owed =>
    rw [statusCause, Line.statusCause, statusQueued_iff.2 queued, statusSending_iff.2 sending]
    rfl
  case nothing =>
    have none : ¬ (s.line.tx.any fun f => f.carriesStatus && f.queued) = true := fun h => idle (statusSending_iff.1 h)
    rw [statusCause, Line.statusCause, statusQueued_iff.2 queued, if_neg none]
    rfl
  case period => exact if_pos (by simp [link, timer])

end Sys2Proof.Machine


/-! Rollover (R22, R23, R59, R162): the state at the opening of a service day, and the tick that raises it. -/

namespace Sys2Proof.Machine

-- One theorem at a time: the whole text is checked in one process.
set_option Elab.async false

/-- The leaving of calls that nothing speaks of changes nothing. -/
theorem leaving_of_quiet {p : Nat → Bool} {s : State} (queue : ∀ i ∈ s.line.urgent, i.stopOf.any p = false)
    (sale : s.issue.sale.any (Sale.boundIn p) = false) (timers : ∀ c ∈ s.calls.active, p c.service = true → c.ackTimer = none) :
    leaving p s = s := by
  have line : s.line.withdraw p = s.line := by
    have urgent : (s.line.urgent.filter fun i => !i.stopOf.any p) = s.line.urgent :=
      List.filter_eq_self.2 fun i hi => by rw [queue i hi]; rfl
    have head : (s.line.urgent.head?.bind Item.stopOf).any p = false := by
      cases hu : s.line.urgent with
      | nil => rfl
      | cons i is => exact queue i (hu ▸ List.mem_cons_self ..)
    rw [Line.withdraw, urgent, head]
    rfl
  have calls : (s.calls.active.map fun c => if p c.service then { c with ackTimer := none } else c) = s.calls.active :=
    (List.map_congr_left fun c hc => by
      split
      · next h => exact congrArg (fun t => ({ c with ackTimer := t } : Call)) (timers c hc h).symm
      · rfl).trans (List.map_id' _)
  have bound : s.issue.sale.map (Sale.voidIn p) = s.issue.sale := by
    cases hx : s.issue.sale with
    | none => rfl
    | some x =>
      have : x.boundIn p = false := by rw [hx] at sale; exact sale
      simp [Sale.voidIn, this]
  rw [leaving, line, calls, bound, sale]
  rfl

/-! ## The closing of a day -/

/-- The service numbers of the calls that the closing of the day voids (R22). -/
theorem closing_contains (s : State) (n : Nat) :
    (closing s).contains n = s.calls.active.any fun c => c.service = n && c.state.saleable := by
  rw [Bool.eq_iff_iff]
  simp only [closing, List.contains_iff_mem, List.mem_map, List.mem_filter, List.any_eq_true, Bool.and_eq_true, decide_eq_true_eq]
  exact ⟨fun ⟨c, ⟨hc, hs⟩, hn⟩ => ⟨c, hc, hn, hs⟩, fun ⟨c, hc, hn, hs⟩ => ⟨c, ⟨hc, hs⟩, hn⟩⟩

/-- The line without its STOP_REQUEST items (R22, R132). -/
def Line.withoutStops (l : Line) : Line :=
  { l with
    urgent := l.urgent.filter fun i => i.stopOf = none
    tx := if l.urgent.head?.any (fun i => i.stopOf ≠ none) = true then l.tx.map TxFrame.offUrgent else l.tx }

/-- The withdrawal of the calls that every queued STOP_REQUEST is of. -/
theorem Line.withdraw_all {p : Nat → Bool} {l : Line} (h : ∀ i ∈ l.urgent, ∀ n ∈ i.stopOf, p n = true) :
    l.withdraw p = l.withoutStops := by
  have one : ∀ i ∈ l.urgent, i.stopOf.any p = decide (i.stopOf ≠ none) := fun i hi => by
    cases hn : i.stopOf with
    | none => rfl
    | some n => simp [h i hi n hn]
  have urgent : (l.urgent.filter fun i => !i.stopOf.any p) = l.urgent.filter fun i => i.stopOf = none :=
    List.filter_congr fun i hi => by rw [one i hi]; simp
  have head : (l.urgent.head?.bind Item.stopOf).any p = l.urgent.head?.any fun i => i.stopOf ≠ none := by
    cases hu : l.urgent with
    | nil => rfl
    | cons i is => exact one i (hu ▸ List.mem_cons_self ..)
  rw [Line.withdraw, Line.withoutStops, urgent, head]

/-- The QUOTED sale bound to a call that the closing of the day voids. -/
def voidedAtClose (s : State) : Bool := s.issue.sale.any (Sale.boundIn fun n => s.calls.active.any fun c => c.service = n && c.state.saleable)

/-- The state with the ending day closed, and these calls in its place (R22, R23). -/
def dayClosedWith (calls : CallTable) (s : State) : State :=
  { s with
    calls := calls
    issue := { s.issue with sale := s.issue.sale.map fun x =>
      { x with state := if voidedAtClose s then .void else x.state } }
    line := s.line.withoutStops
    vport := if voidedAtClose s then s.vport.latch 0x0002#16 else s.vport }

/-- Every queued STOP_REQUEST is of a call in a saleable state (R20). -/
def StopsSaleable (s : State) : Prop :=
  ∀ i ∈ s.line.urgent, ∀ n ∈ i.stopOf, ∃ c ∈ s.calls.active, c.service = n ∧ c.state.saleable = true

theorem StopInv.stopsSaleable {s : State} (h : StopInv s) : StopsSaleable s := fun i hi n hn =>
  have ⟨c, hc, hcn, _, _, hs, _⟩ := h.queued i hi n hn
  ⟨c, hc, hcn, hs⟩

/-- The state after the ending day is closed and the new one opened (R22, R23). -/
theorem openDay_closeDay {s : State} (h : StopsSaleable s) : openDay (closeDay s) =
    if s.calls.nextState = .complete then
      dayClosedWith { active := s.calls.next.map Call.cleared, next := [], nextState := .empty } s
    else reportRearm (dayClosedWith { s.calls with active := s.calls.active.map Call.cleared } s) := by
  have picked : (fun n => (closing s).contains n) = fun n => s.calls.active.any fun c => c.service = n && c.state.saleable :=
    funext (closing_contains s)
  have line : s.line.withdraw (fun n => (closing s).contains n) = s.line.withoutStops := Line.withdraw_all fun i hi n hn => by
    obtain ⟨c, hc, hcn, hs⟩ := h i hi n hn
    rw [closing_contains, List.any_eq_true]
    exact ⟨c, hc, by simp [hcn, hs]⟩
  have sale : s.issue.sale.map (Sale.voidIn fun n => (closing s).contains n) = s.issue.sale.map fun x =>
      { x with state := if voidedAtClose s then .void else x.state } := by
    cases hx : s.issue.sale with
    | none => rfl
    | some x =>
      rw [picked, voidedAtClose, hx, Option.any_some, Option.map_some, Option.map_some, Sale.voidIn]
      split <;> rfl
  have closed (calls : CallTable) : { closeDay s with calls := calls } = dayClosedWith calls s := by
    rw [closeDay_eq, leaving]
    dsimp only [State.mapActive]
    rw [line, sale, picked]
    rfl
  have cleared : (closeDay s).calls.active.map Call.cleared = s.calls.active.map Call.cleared := by
    rw [closeDay_eq]
    simp only [leaving, State.mapActive, List.map_map]
    refine List.map_congr_left fun c _ => ?_
    simp only [Function.comp_apply]
    split <;> split <;> rfl
  have next : (closeDay s).calls.next = s.calls.next := by rw [closeDay_eq]; rfl
  have nextState : (closeDay s).calls.nextState = s.calls.nextState := by rw [closeDay_eq]; rfl
  unfold openDay
  rw [nextState, next, closed]
  refine if_congr Iff.rfl rfl (congrArg reportRearm ?_)
  simp only [State.mapActive, cleared, closed, next, nextState]

/-! ## The opening of a day at midnight -/

/-- An evaluation at the first second of a day lapses no call (R35, R36). -/
theorem evaluateAll_midnight {s : State} (set : s.clock.timeState ≠ .unset) (midnight : s.clock.time.sec = 0) :
    evaluateAll s = s.mapActive fun c => { c with state := evaluated s.line.params s.now c } := by
  have none : lapsedBy (fun _ => true) s = fun _ => false := by
    funext n
    simp only [lapsedBy, lapsesNow, midnight, Nat.not_lt_zero, decide_false, Option.any_false, Bool.and_false]
    exact List.any_eq_false.2 fun _ _ => Bool.false_ne_true
  rw [evaluateAll_eq set, evaluatePicked, none, leaving_none]
  rfl

/-- A call as the new day has it at midnight (R4, R22, R23, R35). -/
def openedCall (p : Params) (c : Call) : Call :=
  { recompute c.cleared with
    state := if (approach (recompute c.cleared)).any fun a => a ≤ p.dueWindow then .due else .scheduled }

theorem recompute_cleared_state (c : Call) : (recompute c.cleared).state = .scheduled := by
  have state : c.cleared.state = .scheduled := rfl
  simp only [recompute, state, beforeArrival]
  split <;> rfl

theorem evaluated_midnight (p : Params) (c : Call) :
    { recompute c.cleared with state := evaluated p 0 (recompute c.cleared) } = openedCall p c := by
  have open' : (recompute c.cleared).state.isOpen = true := by rw [recompute_cleared_state]; rfl
  rw [openedCall, evaluated, open', isPast_lapsePoint, isReached_duePoint]
  simp only [Nat.not_lt_zero, decide_false, Option.any_false, Bool.not_true, Bool.false_eq_true, if_false, Nat.zero_add]

/-- The calls after a rollover at midnight: those of a COMPLETE NEXT bank, or the ending bank re-armed (R23). -/
def openedCalls (s : State) : CallTable :=
  if s.calls.nextState = .complete then
    { active := s.calls.next.map (openedCall s.line.params), next := [], nextState := .empty }
  else { s.calls with active := s.calls.active.map (openedCall s.line.params) }

/-- The mark of a day crossed by an occupancy not yet decided (R162). -/
def Platform.crossed (m : Platform) : Platform :=
  { m with dayCrossed := m.dayCrossed || m.state = .settling || m.state = .occupied }

theorem markDayCrossed_eq (s : State) : markDayCrossed s = { s with platform := s.platform.crossed } := by
  unfold markDayCrossed
  split
  · next h => simp only [Platform.crossed, Bool.or_assoc, h, Bool.or_true]
  · next h => simp only [Platform.crossed, Bool.or_assoc, h, Bool.or_false]

/-- The report of a re-arm (R23, R148). -/
def Line.rearmed (l : Line) : Line :=
  { l with
    tableReused := true
    tx := l.tx.map fun f =>
      if f.source = .urgentItem .status ∨ f.source = .routineItem .status then { f with rearmed := true } else f }

theorem reportRearm_eq (s : State) : reportRearm s = statusCause { s with line := s.line.rearmed } := by
  simp only [reportRearm, carriesStatus_iff]
  rfl

/-- A rollover at midnight, the whole state after it (R22, R23, R162). -/
theorem rolloverCalls_midnight {s : State} (h : StopsSaleable s) (set : s.clock.timeState ≠ .unset) (midnight : s.clock.time.sec = 0) :
    rolloverCalls s =
      let opened : State := { dayClosedWith (openedCalls s) s with platform := s.platform.crossed }
      if s.calls.nextState = .complete then opened
      else statusCause { opened with line := s.line.withoutStops.rearmed } := by
  have all (bank : List Call) : ((bank.map Call.cleared).map recompute).map (fun c =>
      ({ c with state := evaluated s.line.params s.now c } : Call)) = bank.map (openedCall s.line.params) := by
    have now : s.now = 0 := midnight
    rw [List.map_map, List.map_map, now]
    exact List.map_congr_left fun c _ => evaluated_midnight s.line.params c
  unfold rolloverCalls recomputeAll
  rw [markDayCrossed_eq, evaluateAll_midnight (by simpa using set) (by simpa using midnight), openDay_closeDay h, openedCalls]
  split
  · exact congrArg (fun bank => { dayClosedWith { active := bank, next := [], nextState := .empty } s with
      platform := s.platform.crossed }) (all s.calls.next)
  · rw [reportRearm_eq]
    simp only [State.mapActive, statusCause_line, Line.statusCause_params]
    exact congrArg (fun bank => statusCause { dayClosedWith { s.calls with active := bank } s with
      line := s.line.withoutStops.rearmed, platform := s.platform.crossed }) (all s.calls.active)

/-! ## The tick that raises rollover -/

section DayEnd

variable {s : State}

/-- The state at the tick past the end of the day, before the rollover is carried out. -/
def dayEnded (s : State) : State :=
  { tickTimers s with clock := { (tickTimers s).clock with
      time := { sec := 0, tick := 0 }, day := s.clock.day + 1, slewHalf := false } }

theorem crystalStep_wraps (h : wrapsNow s = true) : crystalStep s = rebuild (rolloverCalls (dayEnded s)) := by
  obtain ⟨moves, sec, tick, -⟩ := wrapsNow_iff.1 h
  have ticked : tickClock (tickTimers s).clock = { (tickTimers s).clock with time := { sec := 0, tick := 0 }, slewHalf := false } := by
    have advance : advances (tickTimers s).clock = true := moves
    have midnight : nextTime (tickTimers s).clock.time = { sec := 0, tick := 0 } := by
      show nextTime s.clock.time = _
      rw [nextTime, TimeOfDay.ofTicks_eq, TimeOfDay.ticks, sec, tick]
    rw [tickClock, if_pos advance, midnight]
  rw [crystalStep, if_pos h, raiseRollover, ticked]
  rfl

theorem dayEnded_stops (h : StopInv s) : StopsSaleable (dayEnded s) := fun i hi n hn =>
  have ⟨_, hc, hcn, hs⟩ := h.stopsSaleable i hi n hn
  ⟨_, List.mem_map_of_mem hc, hcn, hs⟩

/-- The void at the close of the day does not depend on the timers. -/
theorem voidedAtClose_dayEnded : voidedAtClose (dayEnded s) = s.issue.sale.any fun x => x.state = .quoted &&
    x.call.any fun n => s.calls.active.any fun c => c.service = n && c.state.saleable := by
  have picked (n : Nat) : ((dayEnded s).calls.active.any fun c => c.service = n && c.state.saleable)
      = s.calls.active.any fun c => c.service = n && c.state.saleable := List.any_map ..
  rw [voidedAtClose]
  simp only [picked]
  cases hx : s.issue.sale <;> simp [dayEnded, tickTimers, tickIssue, hx, Sale.boundIn]

theorem openedCalls_dayEnded : openedCalls (dayEnded s) = openedCalls s := by
  unfold openedCalls
  refine if_congr Iff.rfl rfl (congrArg (fun bank => ({ s.calls with active := bank } : CallTable)) ?_)
  exact List.map_map

end DayEnd

/-- Settles O17: the crystal tick at which a set clock wraps, and the rollover of `rolloverCalls_midnight`. -/
theorem rolloverAtDayEnd : Obligations.RolloverAtDayEnd := by
  unfold Obligations.RolloverAtDayEnd
  intro s cmd hcmd _ stops set time slew less isComplete voided ended opened
  have wraps : wrapsNow s = true := wrapsNow_iff.2 ⟨by simpa [advances] using slew, by rw [time], by rw [time], set⟩
  have step : exec cmd s = .next (rebuild (rolloverCalls (dayEnded s))) := by
    rw [← crystalStep_wraps wraps]
    rcases hcmd with rfl | rfl
    · rfl
    · exact if_pos wraps
  have sale : s.issue.sale.map (fun x => { x with lapse := x.lapse - 1, state := if voided then .void else x.state })
      = (s.issue.sale.map fun x => { x with lapse := x.lapse - 1 }).map fun x =>
          { x with state := if voided then .void else x.state } := by
    rw [Option.map_map]
    rfl
  have rolled : rolloverCalls (dayEnded s) = if isComplete then opened else statusCause opened := by
    rw [rolloverCalls_midnight (dayEnded_stops stops) set rfl, dayClosedWith, voidedAtClose_dayEnded, openedCalls_dayEnded]
    by_cases complete : s.calls.nextState = .complete
    · have hc : isComplete = true := decide_eq_true complete
      refine (if_pos complete).trans ?_
      rw [openedCalls, if_pos complete]
      simp only [opened, hc, if_true, sale]
      rfl
    · have hc : isComplete = false := decide_eq_false complete
      refine (if_neg complete).trans ?_
      rw [openedCalls, if_neg complete]
      simp only [opened, hc, Bool.false_eq_true, if_false, sale]
      rfl
  rw [step, rolled]

end Sys2Proof.Machine


/-! The time of a beacon (R53 to R57, R60): unset, disputed, slewed or stepped, by its offset. -/

namespace Sys2Proof.Machine

-- One theorem at a time: the whole text is checked in one process.
set_option Elab.async false

/-! ## The record of the first symbol, once it is spent -/

/-- The record of a frame's first symbol is cleared (log 6). -/
def forgetStart (s : State) : State := { s with clock := { s.clock with frameStart := none } }

section Forget

variable (s : State)

theorem forgetStart_wake (selLow : Bool) : wake selLow (forgetStart s) = forgetStart (wake selLow s) := by
  by_cases on : s.screen.sigpwr = true
  · have on' : (forgetStart s).screen.sigpwr = true := on
    rw [wake, wake, if_pos on, if_pos on']
    rfl
  · have off : ¬ (forgetStart s).screen.sigpwr = true := on
    rw [wake, wake, if_neg on, if_neg off]
    rfl

theorem forgetStart_evalDemand : evalDemand (forgetStart s) = forgetStart (evalDemand s) := by
  have same : demand (forgetStart s) = demand s := rfl
  have supply : (forgetStart s).screen.supply = s.screen.supply := rfl
  unfold evalDemand evalDemandAt
  rw [same, supply]
  cases s.screen.supply with
  | dark =>
    cases demand s with
    | false => rfl
    | true => exact forgetStart_wake s _
  | lit | powering | lampSettling | biasSettling | fault => rfl

theorem forgetStart_rebuild : rebuild (forgetStart s) = forgetStart (rebuild s) := by
  rw [rebuild_eq, rebuild_eq]
  by_cases same : buildBoard s = s.board.board
  · rw [if_pos same, ← forgetStart_evalDemand]
    exact if_pos same
  · rw [if_neg same, ← forgetStart_evalDemand]
    exact if_neg same

theorem forgetStart_evaluateAll : evaluateAll (forgetStart s) = forgetStart (evaluateAll s) := by
  by_cases set : s.timeSet = true
  · have set' : (forgetStart s).timeSet = true := set
    rw [evaluateAll, evaluateAll, if_pos set, if_pos set', foldl_leaveSaleable_eq, foldl_leaveSaleable_eq]
    rfl
  · have unset : ¬ (forgetStart s).timeSet = true := set
    rw [evaluateAll, evaluateAll, if_neg set, if_neg unset]

theorem forgetStart_recomputeAll : recomputeAll (forgetStart s) = forgetStart (recomputeAll s) :=
  forgetStart_evaluateAll (s.mapActive recompute)

theorem forgetStart_openDay : openDay (forgetStart s) = forgetStart (openDay s) := by
  by_cases complete : s.calls.nextState = .complete
  · have complete' : (forgetStart s).calls.nextState = .complete := complete
    rw [openDay, openDay, if_pos complete, if_pos complete']
    rfl
  · have pending : ¬ (forgetStart s).calls.nextState = .complete := complete
    rw [openDay, openDay, if_neg complete, if_neg pending]
    rfl

theorem forgetStart_rolloverCalls : rolloverCalls (forgetStart s) = forgetStart (rolloverCalls s) := by
  have closed : closeDay (forgetStart s) = forgetStart (closeDay s) := by
    rw [closeDay_eq, closeDay_eq]
    rfl
  unfold rolloverCalls
  rw [closed, forgetStart_openDay, forgetStart_recomputeAll, markDayCrossed_eq, markDayCrossed_eq]
  rfl

theorem forgetStart_lock : lock (forgetStart s) = forgetStart (lock s) := by
  by_cases locked : s.clock.timeState = .locked
  · have locked' : (forgetStart s).clock.timeState = .locked := locked
    rw [lock, lock, if_pos locked, if_pos locked']
    rfl
  · have other : ¬ (forgetStart s).clock.timeState = .locked := locked
    rw [lock, lock, if_neg locked, if_neg other]
    rfl

end Forget

theorem lock_eq {s : State} {k : TimeState} (h : s.clock.timeState = k) : lock s =
    let t : State := { s with clock := { s.clock with timeState := .locked, setMarker := true, holdover := some 9600 } }
    if k = .locked then t else latchS .timeState (latchV .timeState t) := by
  subst h
  rfl

/-! ## The offset of a beacon -/

section Offset

variable {tb l : TimeOfDay} {off k : Int} (hoff : (tb.ticks : Int) - l.ticks = off + 1382400 * k)
include hoff

theorem offset_eq (low : -691200 ≤ off) (high : off ≤ 691199) : offset tb l = off := by
  simp only [offset, Config.dayTicks]
  omega

/-- The day number of a beacon that is nearly in time (R60). -/
theorem dayAdjust_eq (htb : tb.InRange) (hl : l.InRange) (low : -14400 ≤ off) (high : off ≤ 14400) :
    dayAdjust tb l = BitVec.ofInt 16 k := by
  obtain ⟨htb, htbt⟩ : tb.sec ≤ 86399 ∧ tb.tick ≤ 15 := htb
  obtain ⟨hl, hlt⟩ : l.sec ≤ 86399 ∧ l.tick ≤ 15 := hl
  have days : k = -1 ∨ k = 0 ∨ k = 1 := by simp only [TimeOfDay.ticks] at hoff; omega
  simp only [dayAdjust, hoff]
  rcases days with rfl | rfl | rfl
  · rw [if_neg (by omega), if_pos (by omega)]
    rfl
  · rw [if_neg (by omega), if_neg (by omega)]
    rfl
  · rw [if_pos (by omega)]
    rfl

/-- The clock of a beacon that steps it forward is that of the beacon, so the day is the beacon's (R60). -/
theorem dayAdjust_stepped (htb : tb.InRange) (low : 0 ≤ off) : dayAdjust tb (TimeOfDay.ofTicks (l.ticks + off.toNat)) = 0 := by
  obtain ⟨htb, htbt⟩ : tb.sec ≤ 86399 ∧ tb.tick ≤ 15 := htb
  have same : (TimeOfDay.ofTicks (l.ticks + off.toNat)).ticks = tb.ticks := by
    simp only [TimeOfDay.ofTicks_eq, TimeOfDay.ticks] at hoff ⊢
    omega
  simp only [dayAdjust, same]
  rw [if_neg (by omega), if_neg (by omega)]

end Offset

/-! ## The time of a beacon -/

/-- The clock stepped forward, with the rollover of a step past the end of the day (R56, R59). -/
def steppedBy (ticks : Nat) (s : State) : State :=
  let stepped : State := forgetStart { s with clock := { s.clock with
    time := TimeOfDay.ofTicks (s.clock.time.ticks + ticks), slew := 0, slewHalf := false } }
  if s.clock.time.ticks + ticks < 1382400 then stepped
  else rolloverCalls { stepped with clock := { stepped.clock with day := s.clock.day + 1 } }

theorem forgetStart_stepForward (ticks : Nat) (s : State) : forgetStart (stepForward ticks s) = steppedBy ticks s := by
  rw [stepForward, steppedBy]
  dsimp only
  split
  · next past =>
    rw [if_neg (Nat.not_lt.2 (show 1382400 ≤ _ from past)), raiseRollover, ← forgetStart_rolloverCalls]
    rfl
  · next within => rw [if_pos (Nat.lt_of_not_le (show ¬ 1382400 ≤ _ from within))]; rfl

theorem steppedBy_timeState (ticks : Nat) (s : State) : (steppedBy ticks s).clock.timeState = s.clock.timeState := by
  unfold steppedBy
  dsimp only
  split
  · rfl
  · simp [forgetStart]

section BeaconTime

variable {b : BeaconFields} {s : State} {f : FrameStart} (start : startOf s.clock = f)
include start

/-- A stale beacon leaves the time alone (R53). -/
theorem beaconTime_stale (disturbed : f.disturbed = true) : beaconTime b s = forgetStart s := by
  rw [beaconTime, start, if_pos disturbed]
  rfl

/-- A beacon sets an unset clock (R54). -/
theorem beaconTime_unset (fresh : f.disturbed = false) (unset : s.clock.timeState = .unset) : beaconTime b s =
    rebuild (recomputeAll (lock (forgetStart { s with clock := { s.clock with
      time := TimeOfDay.ofTicks (b.time.ticks + (s.clock.crystal - f.crystal))
      day := b.day
      slew := 0
      slewHalf := false } }))) := by
  rw [beaconTime, start, fresh, if_neg Bool.false_ne_true, if_pos unset, setByBeacon, start]
  rw [forgetStart_lock, forgetStart_recomputeAll, forgetStart_rebuild]
  rfl

variable {off k : Int} (fresh : f.disturbed = false) (set : s.clock.timeState ≠ .unset)
  (low : -691200 ≤ off) (high : off ≤ 691199) (hoff : (b.time.ticks : Int) - f.localTime.ticks = off + 1382400 * k)
include fresh set low high hoff

/-- A beacon taken with the time set, by its offset (R55, R56). -/
theorem beaconTime_measured : beaconTime b s = forgetStart (if off < -14400 ∨ 14400 < off then dispute s
    else if 1 < off then afterCorrection b (TimeOfDay.ofTicks (f.localTime.ticks + off.toNat)) true (stepForward off.toNat s)
    else afterCorrection b f.localTime false (startSlew (if off < -1 then (-off).toNat else 0) s)) := by
  rw [beaconTime, start, fresh, if_neg Bool.false_ne_true, if_neg set, measureBeacon, start]
  dsimp only
  rw [offset_eq hoff low high]
  refine congrArg forgetStart ?_
  simp only [Bool.or_eq_true, decide_eq_true_eq]
  refine if_congr Iff.rfl rfl (if_congr Iff.rfl rfl ?_)
  split <;> rfl

/-- A beacon beyond 900 s is disputed (R56). -/
theorem beaconTime_disputed (far : off < -14400 ∨ 14400 < off) : beaconTime b s = statusCause (forgetStart { s with
    clock := { s.clock with disputes := satSucc 255 s.clock.disputes } }) := by
  rw [beaconTime_measured start fresh set low high hoff, if_pos far]
  rfl

/-- A beacon from −900 s to +1 tick sets the slew (R57, R60). -/
theorem beaconTime_slewed (htb : b.time.InRange) (hl : f.localTime.InRange) (near : -14400 ≤ off) (ahead : off ≤ 1) :
    beaconTime b s =
      let t := lock (forgetStart { s with clock := { s.clock with
        slew := if off < -1 then (-off).toNat else 0, slewHalf := false, day := b.day + BitVec.ofInt 16 k } })
      if s.clock.timeState = .holdover then rebuild t else t := by
  have day := dayAdjust_eq hoff htb hl near (by omega)
  have slewed (n : Nat) : afterCorrection b f.localTime false (startSlew n s) =
      if s.clock.timeState = .holdover then rebuild (lock { s with clock := { s.clock with
        slew := n, slewHalf := false, day := b.day + BitVec.ofInt 16 k } })
      else lock { s with clock := { s.clock with slew := n, slewHalf := false, day := b.day + BitVec.ofInt 16 k } } := by
    rw [afterCorrection, adoptDay, day]
    rfl
  have forget (n : Nat) : forgetStart (afterCorrection b f.localTime false (startSlew n s)) =
      let t := lock (forgetStart { s with clock := { s.clock with
        slew := n, slewHalf := false, day := b.day + BitVec.ofInt 16 k } })
      if s.clock.timeState = .holdover then rebuild t else t := by
    rw [slewed, forgetStart_lock]
    dsimp only
    split
    · exact (forgetStart_rebuild _).symm
    · rfl
  rw [beaconTime_measured start fresh set low high hoff, if_neg (by omega), if_neg (by omega)]
  exact forget _

/-- A beacon from 2 ticks to 900 s steps the clock forward, and past the end of the day raises rollover (R56, R59, R60). -/
theorem beaconTime_stepped (htb : b.time.InRange) (behind : 2 ≤ off) (near : off ≤ 14400) : beaconTime b s =
    rebuild (evaluateAll (lock { steppedBy off.toNat s with clock := { (steppedBy off.toNat s).clock with day := b.day } })) := by
  have day : b.day + dayAdjust b.time (TimeOfDay.ofTicks (f.localTime.ticks + off.toNat)) = b.day := by
    rw [dayAdjust_stepped hoff htb (by omega)]
    exact BitVec.add_zero b.day
  have corrected : afterCorrection b (TimeOfDay.ofTicks (f.localTime.ticks + off.toNat)) true (stepForward off.toNat s) =
      rebuild (evaluateAll (lock { stepForward off.toNat s with
        clock := { (stepForward off.toNat s).clock with day := b.day } })) := by
    rw [afterCorrection, adoptDay, day]
    rfl
  rw [beaconTime_measured start fresh set low high hoff, if_neg (by omega), if_pos (by omega), corrected]
  rw [← forgetStart_rebuild, ← forgetStart_evaluateAll, ← forgetStart_lock]
  rw [← forgetStart_stepForward]
  rfl

end BeaconTime

end Sys2Proof.Machine


/-! Beacons taken (R53 to R56, R60, R121, R125, R146) and SET_TIME (R62): the statements. -/

namespace Sys2Proof.Machine

-- One theorem at a time: the whole text is checked in one process.
set_option Elab.async false

/-! ## The fields of a beacon -/

theorem conditionOf_of_le (n : Nat) : n ≤ 3 → conditionOf n = some (match n with
    | 0 => .normal
    | 1 => .disrupted
    | 2 => .suspended
    | _ => .closed) := fun h => by
  interval_cases n <;> rfl

theorem conditionOf_of_lt {n : Nat} (h : 3 < n) : conditionOf n = none := by
  unfold conditionOf
  split
  · omega
  · omega
  · omega
  · omega
  · rfl

theorem readBeacon_malformed {p : List Byte} (h : p.length ≠ 8 ∨ 3 < field p 6 1) : readBeacon p = none := by
  rw [readBeacon]
  split
  · next hl => rw [conditionOf_of_lt (h.resolve_left (not_not.2 hl))]; rfl
  · rfl

theorem readBeacon_fields {p : List Byte} (hl : p.length = 8) (h : field p 6 1 ≤ 3) : readBeacon p = some
    { time := { sec := min (field p 0 3) 86399, tick := min (field p 3 1) 15 }
      day := BitVec.ofNat 16 (field p 4 2)
      condition := match field p 6 1 with
        | 0 => .normal
        | 1 => .disrupted
        | 2 => .suspended
        | _ => .closed
      textCode := field p 7 1 } := by
  have clamped (n top : Nat) : clamp 0 top n = min n top := by simp only [clamp]; omega
  rw [readBeacon, if_pos hl, conditionOf_of_le _ h, clamped, clamped]
  rfl

/-- The time of a beacon lies within the day (R53). -/
theorem readBeacon_inRange {p : List Byte} {b : BeaconFields} (h : readBeacon p = some b) : b.time.InRange := by
  by_cases malformed : p.length ≠ 8 ∨ 3 < field p 6 1
  · rw [readBeacon_malformed malformed] at h
    cases h
  · rw [not_or, not_not, not_lt] at malformed
    rw [readBeacon_fields malformed.1 malformed.2] at h
    obtain rfl := Option.some.inj h
    exact ⟨Nat.min_le_right _ _, Nat.min_le_right _ _⟩

/-! ## A beacon taken -/

section Taken

variable {addr : Byte} {p : List Byte} {b : BeaconFields} {s : State}

theorem exec_beacon (h : takesMessage s .beacon addr p) (hr : readBeacon p = some b) :
    exec (.beacon addr p) s = .next (takeBeacon b (frameDone s)) := congrArg Host.Outcome.next (onMessage_carried h hr)

theorem storeCondition_stored (condition : b.condition = s.line.condition) (text : b.textCode = s.line.textCode) :
    storeCondition b s = s := if_pos (by simp [condition, text])

theorem storeCondition_differs (h : b.condition ≠ s.line.condition ∨ b.textCode ≠ s.line.textCode) : storeCondition b s =
    rebuild { s with
      line := { s.line with condition := b.condition, textCode := b.textCode }
      vport := s.vport.latch 0x0040#16
      sport := s.sport.latch 0x0002#16 } :=
  if_neg (by simpa [or_iff_not_imp_left] using h)

/-- In SYNCED and ADMITTED a beacon does not move the link (R121). -/
theorem beaconLink_joined (h : s.line.link = .synced ∨ s.line.link = .admitted) : beaconLink s = s := by
  rw [beaconLink]
  rcases h with h | h <;> rw [h]

/-- A beacon of the stored condition, in SYNCED or ADMITTED, acts on the time alone. -/
theorem exec_beacon_time (h : takesMessage s .beacon addr p) (hr : readBeacon p = some b)
    (link : s.line.link = .synced ∨ s.line.link = .admitted) (condition : b.condition = s.line.condition)
    (text : b.textCode = s.line.textCode) : exec (.beacon addr p) s = .next (beaconTime b (frameDone s)) := by
  rw [exec_beacon h hr, takeBeacon, beaconLink_joined (s := frameDone s) link, storeCondition_stored (s := frameDone s) condition text]

theorem beaconLink_condition : (beaconLink s).line.condition = s.line.condition ∧ (beaconLink s).line.textCode = s.line.textCode := by
  unfold beaconLink
  split
  · exact ⟨rfl, rfl⟩
  · split <;> exact ⟨rfl, rfl⟩
  · exact ⟨rfl, rfl⟩
  · exact ⟨rfl, rfl⟩
  · exact ⟨rfl, rfl⟩

theorem startOf_of_some {c : Clock} {f : FrameStart} (h : c.frameStart = some f) : startOf c = f := by
  rw [startOf, h, Option.getD_some]

end Taken

/-- Settles O18: a beacon in UNSET by `beaconTime_unset`, and SET_TIME by the table hold. -/
theorem timeIsSet : Obligations.TimeIsSet := by
  unfold Obligations.TimeIsSet
  refine ⟨fun addr p b f s h hr unset start fresh link condition text => ?beacon, fun addr p s h hl => ⟨fun free => ?free, fun held => ?held⟩⟩
  case beacon =>
    rw [exec_beacon_time h hr link condition text,
      beaconTime_unset (s := frameDone s) (startOf_of_some start) fresh unset, TimeOfDay.ofTicks_eq]
    exact congrArg (fun t => Host.Outcome.next (rebuild (recomputeAll t))) (lock_eq (k := .unset) unset)
  case free =>
    refine congrArg Host.Outcome.next ((onMessage_carried h (if_pos hl : readSetTime p = _)).trans ?_)
    exact if_neg free
  case held =>
    have clamped : clamp 0 Config.lastSecond (field p 0 3) = min (field p 0 3) 86399 := by
      simp only [clamp, Config.lastSecond]
      omega
    have carried := onMessage_carried (read := readSetTime) (carryOut := takeSetTime) h (if_pos hl : readSetTime p = _)
    rw [clamped] at carried
    refine congrArg Host.Outcome.next (carried.trans ((if_pos held).trans ?_))
    refine congrArg (fun t => offerReply .time .accepted none (rebuild (evaluateAll t))) ?_
    have spared : (fun c : Call => if (frameDone s).timeSet && decide (c.state = .lapsed) then c else recompute c) =
        fun c => if s.clock.timeState ≠ .unset ∧ c.state = .lapsed then c else recompute c := funext fun c => by
      simp only [Bool.and_eq_true, decide_eq_true_eq, State.timeSet, bne_iff_ne]
      rfl
    rw [spared]
    show (if s.clock.timeState = .locked then _ else _ : State).mapActive _ = _
    split <;> rfl

/-- Settles O19: the beacon is disputed or sets the slew. -/
theorem beaconMeasured : Obligations.BeaconMeasured := by
  unfold Obligations.BeaconMeasured
  intro addr p b f s off k h hr set start fresh hl link condition text low high hoff
  have first : startOf (frameDone s).clock = f := startOf_of_some start
  rw [exec_beacon_time h hr link condition text]
  refine ⟨fun far => ?disputed, fun ⟨near, ahead⟩ => ?slewed⟩
  case disputed =>
    rw [beaconTime_disputed (s := frameDone s) first fresh set low high hoff far, satSucc_eq]
    rfl
  case slewed =>
    rw [beaconTime_slewed (s := frameDone s) first fresh set low high hoff (readBeacon_inRange hr) hl near ahead]
    refine ⟨fun locked => ?_, fun holdover => ?_⟩
    · have kept : ¬ (frameDone s).clock.timeState = .holdover := fun h => by cases locked.symm.trans h
      exact congrArg Host.Outcome.next ((if_neg kept).trans (lock_eq (k := .locked) locked))
    · exact congrArg Host.Outcome.next ((if_pos holdover).trans (congrArg rebuild (lock_eq (k := .holdover) holdover)))

/-- Settles O20: a step of the clock, within the day or past its end. -/
theorem forwardStep : Obligations.ForwardStep := by
  unfold Obligations.ForwardStep
  intro addr p b f s off k h hr set start fresh hl _ link condition text behind near hoff total stepped locked
  have first : startOf (frameDone s).clock = f := startOf_of_some start
  rw [exec_beacon_time h hr link condition text, beaconTime_stepped (s := frameDone s) (off := off) first fresh set (by omega) (by omega)
    hoff (readBeacon_inRange hr) (by omega) (by omega), Int.toNat_natCast]
  have same := steppedBy_timeState off (frameDone s)
  have stepped' (t : State) (h : steppedBy off (frameDone s) = t) : lock { steppedBy off (frameDone s) with
      clock := { (steppedBy off (frameDone s)).clock with day := b.day } } = locked t := by
    subst h
    exact lock_eq same
  refine ⟨fun within => ?_, fun past => ?_⟩
  · refine congrArg (fun t => Host.Outcome.next (rebuild (evaluateAll t))) (stepped' _ ?_)
    rw [steppedBy, TimeOfDay.ofTicks_eq]
    exact if_pos within
  · refine congrArg (fun t => Host.Outcome.next (rebuild (evaluateAll t))) (stepped' _ ?_)
    rw [steppedBy, TimeOfDay.ofTicks_eq]
    exact if_neg (Nat.not_lt.2 past)

/-- Settles O21: the link, then the condition, then the time, each by its own rule. -/
theorem staleBeacon : Obligations.StaleBeacon := by
  unfold Obligations.StaleBeacon
  refine ⟨fun addr p s h => ⟨fun malformed => ?malformed, fun hl hf => ?taken⟩, fun b s htb => ?time⟩
  case malformed => exact congrArg Host.Outcome.next (onMessage_malformed h (readBeacon_malformed malformed))
  case taken =>
    have read := readBeacon_fields hl hf
    have condition := beaconLink_condition (s := frameDone s)
    refine ⟨read, fun same => ?_, fun differs => ?_⟩
    · rw [exec_beacon h read, takeBeacon, storeCondition_stored (by rw [condition.1]; exact same.1) (by rw [condition.2]; exact same.2)]
      rfl
    · rw [exec_beacon h read, takeBeacon, storeCondition_differs (by rw [condition.1, condition.2]; exact differs)]
      rfl
  case time =>
    intro f u lock'
    have start : startOf s.clock = f := by
      simp only [startOf, f]
      cases s.clock.frameStart <;> rfl
    have locks (t : State) (h : t.clock.timeState = s.clock.timeState) : lock t = lock' t := lock_eq h
    refine ⟨beaconTime_stale start, fun fresh unset => ?unset, fun fresh set hl _ off k low high hoff =>
      ⟨fun far => ?disputed, fun ⟨near, ahead⟩ => ?slewed, fun ⟨behind, near⟩ => ?stepped⟩⟩
    case unset =>
      rw [beaconTime_unset start fresh unset, TimeOfDay.ofTicks_eq]
      exact congrArg (fun t => rebuild (recomputeAll t)) (locks _ rfl)
    case disputed =>
      rw [beaconTime_disputed start fresh set low high hoff far, satSucc_eq]
      rfl
    case slewed =>
      rw [beaconTime_slewed start fresh set low high hoff htb hl near ahead]
      exact congrArg (fun t => if s.clock.timeState = .holdover then rebuild t else t) (locks _ rfl)
    case stepped =>
      intro total stepped rolled
      have same := steppedBy_timeState off.toNat s
      have steps : steppedBy off.toNat s = rolled := by
        rw [steppedBy, TimeOfDay.ofTicks_eq]
        rfl
      rw [beaconTime_stepped start fresh set low high hoff htb behind near]
      rw [steps] at same ⊢
      exact congrArg (fun t => rebuild (evaluateAll t)) (locks _ same)

end Sys2Proof.Machine


/-! Quotes (R76, R82 to R84): the checks in their order, and the sale of a quote that passes them. -/

namespace Sys2Proof.Machine

-- One theorem at a time: the whole text is checked in one process.
set_option Elab.async false

/-! ## Checks in an order -/

/-- The code of the first check that fails. -/
def firstFailure (tests : List (Bool × Status)) : Option Status := (tests.find? fun t => !t.1).map Prod.snd

theorem firstFailure_cons (passed : Bool) (code : Status) (tests : List (Bool × Status)) :
    firstFailure ((passed, code) :: tests) = if !passed then some code else firstFailure tests := by
  cases passed <;> rfl

theorem firstFailure_append (tests more : List (Bool × Status)) :
    firstFailure (tests ++ more) = (firstFailure tests).or (firstFailure more) := by
  simp only [firstFailure, List.find?_append]
  cases tests.find? fun t => !t.1 <;> rfl

theorem ite_or {p : Prop} [Decidable p] (code : Status) (x y : Option Status) :
    (if p then some code else x).or y = if p then some code else x.or y := by
  split <;> rfl

theorem firstFailure_eq_none {tests : List (Bool × Status)} : (tests.find? fun t => !t.1) = none ↔ firstFailure tests = none :=
  Option.map_eq_none_iff.symm

/-! ## The checks of a QUOTE -/

section Checks

variable (s : State) (q : QuoteFields)

/-- The checks of a quote bound to a call, in the words of R83. -/
def callTests (n : Nat) : List (Bool × Status) :=
  let call (test : Call → Bool) : Bool := (bankFind n s.calls.active).any test
  [(s.line.condition != .suspended, .suspended),
    (call fun c => c.sd.isSome, .unknownCall),
    (call fun c => c.state = .scheduled || c.state = .due || c.state = .arrived, .callGone),
    (call fun c => c.served.contains q.dest, .notServed),
    (call fun c => c.ed.any fun t => s.clock.time.sec + s.line.params.salesMargin < t, .tooLate),
    (call fun c => c.kind = .stops || c.stop != .none ||
      (approach c).any fun t => s.clock.time.sec + s.line.params.requestMargin < t, .tooLate)]

/-- The peak test time, in the words of R76. -/
def peakTestTime : Nat := match q.service with
  | none => s.clock.time.sec
  | some n => ((bankFind n s.calls.active).bind fun c => c.sd).getD s.clock.time.sec

/-- The checks that come first, in the words of R82. -/
def formTests : List (Bool × Status) :=
  [(s.clock.timeState != .unset, .noTime),
    (s.issue.hold = .free, .held),
    (s.line.condition != .closed, .closed),
    ((zoneOf s.fares.dests q.dest).isSome, .unknownDest),
    ((slotOf s.fares q.concession).isSome, .unknownConcession)]

/-- The checks that come last, in the words of R82. -/
def stockTests : List (Bool × Status) :=
  [(!(q.kind = .dayReturn && s.fares.block.peakStart ≤ peakTestTime s q && peakTestTime s q < s.fares.block.peakEnd), .peak),
    ((s.issue.blocks.map Block.count).sum != 0, .noSerial),
    (s.issue.journal.length < 400 && s.issue.sequence < 4294967295, .journalFull)]

theorem saleable_eq (k : CallState) :
    k.saleable = (decide (k = .scheduled) || decide (k = .due) || decide (k = .arrived)) := by
  cases k <;> rfl

theorem callChecks_eq (n : Nat) : callChecks s q.dest n = firstFailure (callTests s q n) := by
  simp only [callChecks, callTests, firstFailure_cons, State.call]
  refine if_congr (by simp [bne]) rfl ?_
  cases bankFind n s.calls.active with
  | none => rfl
  | some c =>
    have cutoff : c.sd.isSome = true → isBefore s.now (salesCutoff s.line.params c)
        = c.ed.any fun t => decide (s.clock.time.sec + s.line.params.salesMargin < t) := fun h => by
      rw [salesCutoff_of_sd h]
      exact isBefore_cutoff _ _ _
    have early : isBefore s.now (requestCutoff s.line.params c)
        = (approach c).any fun t => decide (s.clock.time.sec + s.line.params.requestMargin < t) := isBefore_requestCutoff _ _ _
    simp only [Option.any_some, ← saleable_eq, early]
    cases sd : c.sd with
    | none => rfl
    | some d =>
      rw [cutoff (by rw [sd]; rfl)]
      refine if_congr (by simp) rfl (if_congr Iff.rfl rfl (if_congr Iff.rfl rfl (if_congr Iff.rfl rfl (if_congr ?_ rfl rfl))))
      cases c.kind <;> simp [bne]

theorem boundChecks_eq : (q.service.bind (callChecks s q.dest)) = firstFailure (match q.service with
    | none => []
    | some n => callTests s q n) := by
  cases q.service with
  | none => rfl
  | some n => exact callChecks_eq s q n

theorem peakTime_eq : peakTime s q.service = peakTestTime s q := by
  unfold peakTime peakTestTime
  cases q.service <;> rfl

/-- The refusal of a quote is the first check that fails (R82, R83). -/
theorem quoteRefusal_eq : quoteRefusal s q = firstFailure (formTests s q ++ (match q.service with
    | none => []
    | some n => callTests s q n) ++ stockTests s q) := by
  have last : (if peakFails s.fares.block q.kind (peakTime s q.service) then some Status.peak
      else if remaining s.issue.blocks = 0 then some .noSerial
      else if journalFull s.issue then some .journalFull
      else none) = firstFailure (stockTests s q) := by
    simp only [stockTests, firstFailure_cons, peakTime_eq, peakFails, inPeak, Bool.not_not, Bool.and_assoc]
    refine if_congr Iff.rfl rfl (if_congr (by simp [remaining]) rfl (if_congr ?_ rfl rfl))
    simp only [journalFull, Bool.or_eq_true, Bool.not_eq_true', Bool.and_eq_false_iff, decide_eq_true_eq, decide_eq_false_iff_not,
      Nat.not_lt]
    rfl
  rw [firstFailure_append, firstFailure_append, ← boundChecks_eq, ← last]
  simp only [quoteRefusal, formTests, firstFailure_cons, State.timeSet]
  simp only [ite_or]
  refine if_congr Iff.rfl rfl (if_congr (by simp) rfl (if_congr (by simp [bne]) rfl (if_congr (by simp) rfl (if_congr (by simp) rfl ?_))))
  cases q.service.bind (callChecks s q.dest) <;> rfl

end Checks

/-! ## The statements -/

theorem exec_quote {port : Port} {req : Request} {p : List Byte} {q : QuoteFields} {s : State} (h : takesTransaction s port)
    (hf : wellFramed .quote port req p) (hr : readQuote p = some q) :
    exec (.quote port req) s = .next (carryQuote port q (requestTaken port s)) :=
  congrArg Host.Outcome.next (onRequest_carried h hf hr)

theorem requestTaken_quoteRefusal (port : Port) (q : QuoteFields) (s : State) :
    quoteRefusal (requestTaken port s) q = quoteRefusal s q := by
  cases port <;> rfl

/-- Settles O33: the refusal is the first failure of the list of checks (`quoteRefusal_eq`). -/
theorem quoteChecksInOrder : Obligations.QuoteChecksInOrder := by
  unfold Obligations.QuoteChecksInOrder
  intro port req p q s h hf hr now call callTests peakTime tests
  have refusal : quoteRefusal (requestTaken port s) q = firstFailure tests :=
    (requestTaken_quoteRefusal port q s).trans (quoteRefusal_eq s q)
  refine ⟨fun r failed => ?_, firstFailure_eq_none.trans (by rw [refusal])⟩
  have code : quoteRefusal (requestTaken port s) q = some r := refusal.trans failed
  rw [exec_quote h hf hr, carryQuote, code, ← respond_requestTaken]
  rfl

/-- Settles O34: the sale of an accepted quote, and the demand it raises. -/
theorem quoteAccepted : Obligations.QuoteAccepted := by
  unfold Obligations.QuoteAccepted
  intro port req p q z c s h hf hr accepted zone slot
  have fare : quotedFare (requestTaken port s) q = fareOf s.fares.block z q.kind c := by
    have hz : zoneOf (requestTaken port s).fares.dests q.dest = some z := by cases port <;> exact zone
    have hc : slotOf (requestTaken port s).fares q.concession = some c := by cases port <;> exact slot
    rw [quotedFare, hz, hc]
    cases port <;> rfl
  have sale : newSale (requestTaken port s) q =
      { state := .quoted
        call := q.service
        dest := q.dest
        kind := q.kind
        concession := q.concession
        fare := fareOf s.fares.block z q.kind c
        quoteTime := s.clock.time.sec
        lapse := 2880 } := by
    rw [newSale, fare]
    cases port <;> rfl
  rw [exec_quote h hf hr, carryQuote, accepted, sale]
  cases port <;> rfl


end Sys2Proof.Machine


/-! Transactions of the ports: those not taken, those refused on form (R187 to R191), the collection and NOTICES (R189, R195). -/

namespace Sys2Proof.Machine

-- One theorem at a time: the whole text is checked in one process.
set_option Elab.async false

/-! ## Masks of a NOTICES -/

theorem and_not_eq_zero_iff (x m : BitVec 16) : x &&& ~~~m = 0 ↔ x &&& m = x := by
  have split : x = (x &&& m) ||| (x &&& ~~~m) := by
    rw [← BitVec.and_or_distrib_left, BitVec.or_not_self, BitVec.and_allOnes]
  refine ⟨fun h => ?_, fun h => ?_⟩
  · rw [h] at split
    simpa using split.symm
  · rw [← h, BitVec.and_assoc, BitVec.and_not_self]
    exact BitVec.and_zero

/-- How many positions a port has notices for (R201). -/
def maskTop : Port → Nat
  | .vending => 256
  | .signage => 32

theorem and_noticePositions_eq_self_iff (port : Port) {n : Nat} (h : n < 65536) :
    BitVec.ofNat 16 n &&& noticePositions port = BitVec.ofNat 16 n ↔ n < maskTop port := by
  rw [← BitVec.toNat_inj, BitVec.toNat_and, BitVec.toNat_ofNat, Nat.mod_eq_of_lt (by simpa using h)]
  cases port with
  | vending =>
    have low : n &&& 255 = n % 256 := Nat.and_two_pow_sub_one_eq_mod n 8
    show n &&& 255 = n ↔ n < 256
    rw [low]
    exact ⟨fun e => e ▸ Nat.mod_lt _ (by decide), Nat.mod_eq_of_lt⟩
  | signage =>
    have low : n &&& 31 = n % 32 := Nat.and_two_pow_sub_one_eq_mod n 5
    show n &&& 31 = n ↔ n < 32
    rw [low]
    exact ⟨fun e => e ▸ Nat.mod_lt _ (by decide), Nat.mod_eq_of_lt⟩

section Notices

variable {port : Port} {p : List Byte}

theorem readNotices_fields (hl : p.length = 2) (h : field p 0 2 = 65535 ∨ field p 0 2 < maskTop port) : readNotices port p =
    some (if field p 0 2 = 65535 then none else some (BitVec.ofNat 16 (field p 0 2))) := by
  have low : field p 0 2 < 65536 := field_lt p 0 2
  rw [readNotices, if_pos hl, optField]
  by_cases absent : field p 0 2 = 65535
  · simp only [absent]
    rfl
  · have known := (and_not_eq_zero_iff _ _).2 ((and_noticePositions_eq_self_iff port low).2 (h.resolve_left absent))
    have present : ¬ field p 0 2 = 256 ^ 2 - 1 := absent
    simp only [if_neg present, if_neg absent, if_pos known]

theorem readNotices_malformed (h : field p 0 2 ≠ 65535) (high : maskTop port ≤ field p 0 2) : readNotices port p = none := by
  have low : field p 0 2 < 65536 := field_lt p 0 2
  have present : ¬ field p 0 2 = 256 ^ 2 - 1 := h
  have unknown : ¬ BitVec.ofNat 16 (field p 0 2) &&& ~~~noticePositions port = 0 := fun zero =>
    Nat.not_lt.2 high ((and_noticePositions_eq_self_iff port low).1 ((and_not_eq_zero_iff _ _).1 zero))
  rw [readNotices, optField]
  simp only [if_neg present, if_neg unknown, ite_self]

end Notices

/-! ## Requests refused on form -/

/-- The payloads of a command that R190 and R191 refuse. -/
def Command.refusesForm (cmd : Command) (port : Port) (p : List Byte) : Prop :=
  p.length ≠ cmd.length ∨ match cmd with
    | .quote => 2 < field p 2 1
    | .commit => 3 < field p 0 1
    | .screen => 2 < field p 0 1 ∧ field p 0 1 ≠ 255
    | .notices => field p 0 2 ≠ 65535 ∧ maskTop port ≤ field p 0 2
    | .time | .calls | .release | .salesState | .board | .condition | .ready | .quiet => False

theorem readQuote_malformed {p : List Byte} (h : p.length ≠ 6 ∨ 2 < field p 2 1) : readQuote p = none := by
  rw [readQuote]
  split
  · next hl =>
    have beyond : 2 < field p 2 1 := h.resolve_left (not_not.2 hl)
    have unknown : ticketKindOf (field p 2 1) = none := by
      unfold ticketKindOf
      split
      · omega
      · omega
      · omega
      · rfl
    rw [unknown]
    rfl
  · rfl

theorem readCommit_malformed {p : List Byte} (h : p.length ≠ 1 ∨ 3 < field p 0 1) : readCommit p = none :=
  if_neg (by
    simp only [Bool.and_eq_true, decide_eq_true_eq]
    omega)

theorem readScreen_malformed {p : List Byte} (h : p.length ≠ 2 ∨ (2 < field p 0 1 ∧ field p 0 1 ≠ 255)) : readScreen p = none := by
  rw [readScreen]
  split
  · next hl =>
    obtain ⟨beyond, present⟩ := h.resolve_left (not_not.2 hl)
    have unknown : readMode p = none := by
      have beyondList : screenModeOf (field p 0 1) = none := by
        unfold screenModeOf
        split
        · omega
        · omega
        · omega
        · rfl
      rw [readMode, optField_octet, if_neg present]
      exact congrArg (Option.map some) beyondList
    rw [unknown]
    rfl
  · rfl

section Requests

variable {cmd : Command} {port : Port} {req : Request} {p : List Byte} {s : State}

theorem exec_request_not_taken (h : ¬ takesTransaction s port) : exec (cmd.request port req) s = .next (selRises port s) := by
  cases cmd <;> exact congrArg Host.Outcome.next (onTransaction_not_taken h _ _)

/-- The first form checks come before the command's own rule (R190). -/
theorem exec_request_unframed (h : takesTransaction s port) (hf : framed req = none) : exec (cmd.request port req) s =
    .next (answeredWith port { status := .badRequest, payload := [] } s) := by
  cases cmd <;> exact congrArg Host.Outcome.next ((onRequest_taken h).trans (by rw [hf]))

theorem exec_request_wrongPort (h : takesTransaction s port) (hf : framed req = some p) (hp : cmd.ofPort port = false) :
    exec (cmd.request port req) s = .next (answeredWith port { status := .wrongPort, payload := [] } s) := by
  cases cmd <;> exact congrArg Host.Outcome.next ((onRequest_taken h).trans (by rw [hf]; exact if_pos (by rw [hp]; rfl)))

theorem exec_request_malformed (h : takesTransaction s port) (hf : wellFramed cmd port req p) (bad : cmd.refusesForm port p) :
    exec (cmd.request port req) s = .next (answeredWith port { status := .badRequest, payload := [] } s) := by
  cases cmd with
  | quote => exact congrArg Host.Outcome.next (onRequest_malformed h hf (readQuote_malformed bad))
  | commit => exact congrArg Host.Outcome.next (onRequest_malformed h hf (readCommit_malformed bad))
  | screen => exact congrArg Host.Outcome.next (onRequest_malformed h hf (readScreen_malformed bad))
  | notices =>
    refine congrArg Host.Outcome.next (onRequest_malformed h hf ?_)
    rcases bad with hl | ⟨present, high⟩
    · exact if_neg hl
    · exact readNotices_malformed present high
  | time | calls | release | salesState | board | condition | ready | quiet =>
    exact congrArg Host.Outcome.next (onRequest_malformed h hf (if_neg (bad.resolve_right id)))

end Requests

theorem framed_malformed {req : Request} (h : req.partialOctet = true ∨ req.octets = [] ∨
    ∃ len p, req.octets = len :: p ∧ (60 < len.toNat ∨ p.length ≠ len.toNat)) : framed req = none := by
  rw [framed]
  rcases h with h | h | ⟨len, p, h, bad⟩
  · split
    · rfl
    · exact if_neg (by simp [h])
  · rw [h]
  · rw [h]
    refine if_neg ?_
    simp only [Bool.and_eq_true, decide_eq_true_eq, not_and]
    omega

theorem ofCode_unknown {code : Byte} (h : code.toNat = 0 ∨ 12 < code.toNat) : Command.ofCode code = none := by
  rw [Command.ofCode, List.find?_eq_none]
  intro cmd _ known
  have same : cmd.code = code := by simpa using known
  rw [← same] at h
  cases cmd <;> simp [Command.code] at h

/-- Settles O30: the form checks in their order, by the kind of failure. -/
theorem requestsNotCarriedOut : Obligations.RequestsNotCarriedOut := by
  unfold Obligations.RequestsNotCarriedOut
  refine ⟨fun cmd port req n s h hn => ?notTaken, fun cmd port req s h => ?refused, fun port code rest isPartial s h hc bad => ?unknown⟩
  case notTaken =>
    refine ⟨exec_request_not_taken h, ?_⟩
    exact (if_neg hn).trans (congrArg Host.Outcome.next (onTransaction_not_taken h _ _))
  case refused =>
    refine ⟨fun bad => exec_request_unframed h (framed_malformed (bad.symm.imp id Or.inl)),
      fun len p ho bad => exec_request_unframed h (framed_malformed (Or.inr (Or.inr ⟨len, p, ho, bad⟩))),
      fun p hf => ⟨exec_request_wrongPort h hf, fun hp => ⟨fun hl => exec_request_malformed h ⟨hf, hp⟩ (Or.inl hl), ?_, ?_, ?_, ?_⟩⟩⟩
    · rintro rfl high
      exact exec_request_malformed h ⟨hf, hp⟩ (Or.inr high)
    · rintro rfl high
      exact exec_request_malformed h ⟨hf, hp⟩ (Or.inr high)
    · rintro rfl high present
      exact exec_request_malformed h ⟨hf, hp⟩ (Or.inr ⟨high, present⟩)
    · rintro rfl present high
      refine exec_request_malformed h ⟨hf, hp⟩ (Or.inr ⟨present, ?_⟩)
      cases port <;> exact high
  case unknown =>
    have form : unknownForm code { octets := rest, partialOctet := isPartial } = true := by
      rw [unknownForm, Bool.or_eq_true, Option.isNone_iff_eq_none, Option.isNone_iff_eq_none]
      rcases bad with zero | high | unframed
      · exact Or.inr (ofCode_unknown (Or.inl zero))
      · exact Or.inr (ofCode_unknown (Or.inr high))
      · exact Or.inl (framed_malformed unframed)
    refine (if_pos (by rw [form]; simpa [collectionCode] using hc)).trans (congrArg Host.Outcome.next ?_)
    rw [onTransaction_taken h, refuse, respond_requestTaken]

end Sys2Proof.Machine


/-! The collection of a response (R189), NOTICES (R195), and the outputs RDY and NOTICE (R186, R194). -/

namespace Sys2Proof.Machine

-- One theorem at a time: the whole text is checked in one process.
set_option Elab.async false

/-! ## What a collection shifts out -/

theorem length_shiftedOut (buffer : Option Response) (n : Nat) : (shiftedOut buffer n).length = n := by
  simp only [shiftedOut, List.length_append, List.length_take, List.length_replicate]
  omega

/-- After the response all ones are shifted out (R187, R189). -/
theorem shiftedOut_getElem? (buffer : Option Response) {n k : Nat} (h : k < n) :
    (shiftedOut buffer n)[k]? = some ((0xFF#8 :: responseOctets buffer).getD k 0xFF#8) := by
  have length := length_shiftedOut buffer n
  rw [List.getD_eq_getElem?_getD]
  simp only [shiftedOut] at length ⊢
  by_cases within : k < (0xFF#8 :: responseOctets buffer).length
  · rw [List.getElem?_append_left (by rw [List.length_take]; omega), List.getElem?_take_of_lt h, List.getElem?_eq_getElem within,
      Option.getD_some]
  · have beyond : (0xFF#8 :: responseOctets buffer)[k]? = none := List.getElem?_eq_none (Nat.le_of_not_lt within)
    rw [beyond, Option.getD_none, List.getElem?_append_right (by rw [List.length_take]; omega), List.getElem?_replicate,
      if_pos (by rw [List.length_take]; omega)]

theorem responseOctets_eq (buffer : Option Response) : responseOctets buffer = match buffer with
    | some r => r.status.code :: BitVec.ofNat 8 r.payload.length :: r.payload
    | none => [0x01#8, 0x00#8] := by
  cases buffer <;> rfl

/-- The octets of a collection are those of its own transaction (R187). -/
theorem collectionOctets_succ (n : Nat) : ∃ rest, collectionOctets (n + 1) = collectionCode :: rest :=
  ⟨_, List.take_succ_cons ..⟩

section Ports

variable {port : Port} {s : State}

theorem exec_collection (h : takesTransaction s port) {n : Nat} (hn : n ≠ 0) : exec (.collection port n) s = .next (setPort s port
    { (portOf s port).idle with buffer := none, dout := shiftedOut (portOf s port).buffer n }) := by
  obtain ⟨m, rfl⟩ := Nat.exists_eq_succ_of_ne_zero hn
  obtain ⟨rest, octets⟩ := collectionOctets_succ m
  show execCollection port (m + 1) s = _
  rw [execCollection, if_neg hn, octets, onTransaction_taken h]
  cases port <;> rfl

theorem listening_iff : listening s port = true ↔ (portOf s port).held = false ∧ (port = .signage → s.screen.sigpwr = true) := by
  cases port <;> simp [listening, powered]

theorem rdy_iff : rdy s port = true ↔ (portOf s port).buffer ≠ none ∧ listening s port = true := by
  rw [rdy, Bool.and_eq_true, Option.isSome_iff_ne_none]

theorem noticeOut_iff : noticeOut s port = true ↔ (portOf s port).notices &&& ~~~(portOf s port).mask ≠ 0 ∧ listening s port = true := by
  rw [noticeOut, Bool.and_eq_true, bne_iff_ne]
  rfl

theorem exec_notices {req : Request} {p : List Byte} (h : takesTransaction s port) (hf : wellFramed .notices port req p)
    (hl : p.length = 2) (mask : field p 0 2 = 65535 ∨ field p 0 2 < maskTop port) : exec (.notices port req) s =
      .next (carryNotices port (if field p 0 2 = 65535 then none else some (BitVec.ofNat 16 (field p 0 2))) (requestTaken port s)) :=
  congrArg Host.Outcome.next (onRequest_carried h hf (readNotices_fields hl mask))

end Ports

/-- Settles O32: the octets of a collection, the notices NOTICES removes, and the levels of the outputs. -/
theorem collectionAndNotices : Obligations.CollectionAndNotices := by
  unfold Obligations.CollectionAndNotices
  refine ⟨fun port n s h hn => ?collection, fun port req p s h hf hl mask => ?notices, fun port s => ?outputs⟩
  case collection =>
    refine ⟨_, exec_collection h hn, length_shiftedOut _ n, fun k hk => ?_⟩
    rw [shiftedOut_getElem? _ hk, responseOctets_eq]
    cases k <;> rfl
  case notices =>
    rw [exec_notices h hf hl (by cases port <;> exact mask)]
    by_cases absent : field p 0 2 = 65535
    · simp only [if_pos absent]
      cases port <;> rfl
    · simp only [if_neg absent]
      cases port <;> rfl
  case outputs =>
    rw [rdy_iff, noticeOut_iff, listening_iff]
    exact ⟨Iff.rfl, Iff.rfl⟩

end Sys2Proof.Machine


/-! Frames that are not carried out (R127, R128, R136), serial grants and the table hold (R95, R100, R101), the cold start (R66)
and the state after reset. -/

namespace Sys2Proof.Machine

-- One theorem at a time: the whole text is checked in one process.
set_option Elab.async false

/-! ## Frames that are not carried out -/

section Frames

variable {s : State} {addr : Byte} {k : DownKind} {p : List Byte}

/-- The receiver once a frame has been dealt with (R111). -/
theorem rxClose_eq (r : Receiver) : rxClose r = match r.phase with
    | .starting | .receiving _ => { marks := 0, phase := .waiting }
    | .waiting | .valid _ | .bad _ => { r with phase := .waiting } := by
  rw [rxClose]
  cases r.phase <;> rfl

theorem countBad_eq (s : State) : countBad s = { s with line := { s.line with
    badFrames := if s.line.badFrames < 65535 then s.line.badFrames + 1 else 65535 } } := by
  rw [countBad, satSucc_countTop]

theorem onMessage_not_taken {α : Type} {read : List Byte → Option α} {carryOut : α → State → State}
    (h : heard s addr k.code p = true) (ht : taken s k addr = false) : onMessage k read carryOut addr p s = frameDone s := by
  rw [onMessage, if_pos h, if_neg (Bool.eq_false_iff.1 ht)]

theorem exec_message_not_taken (h : heard s addr k.code p = true) (ht : taken s k addr = false) :
    exec (k.message addr p) s = .next (frameDone s) := by
  cases k <;> exact congrArg Host.Outcome.next (onMessage_not_taken h ht)

theorem ofCode_code (k : DownKind) : DownKind.ofCode k.code = some k := by
  cases k <;> rfl

/-- A frame that is taken with a payload of another length is malformed (R136). -/
theorem exec_message_malformed (h : takesMessage s k addr p) (hl : k.hasLength p = false) :
    exec (k.message addr p) s = .next (onMalformed k (frameDone s)) := by
  cases k with
  | beacon =>
    exact congrArg Host.Outcome.next (onMessage_malformed h (readBeacon_malformed (Or.inl (of_decide_eq_false hl))))
  | admission =>
    exact congrArg Host.Outcome.next (onMessage_malformed h (readAdmit_malformed (Or.inl (of_decide_eq_false hl))))
  | delay | cancel | reinstate | restart | stopAck | saleAck | serialGrant | hold | release | loadCall | loadClear | loadEnd
  | loadFareDest | loadFarePrice | loadConcession | loadParams | setTime =>
    exact congrArg Host.Outcome.next (onMessage_malformed h (if_neg (of_decide_eq_false hl)))

end Frames

/-- Settles O40: the receiver is closed, the silence timer restarted, and the frame counted, answered or ignored. -/
theorem framesNotCarriedOut : Obligations.FramesNotCarriedOut := by
  unfold Obligations.FramesNotCarriedOut
  intro s closed done counted
  have closes : ({ s.line with rx := rxClose s.line.rx } : Line) = closed s.line :=
    congrArg (fun r => ({ s.line with rx := r } : Line)) (rxClose_eq s.line.rx)
  have finished : frameDone s = { s with line := done s.line } := by rw [frameDone, rxClose_eq]; rfl
  have counts (t : State) : countBad t = { t with line := counted t.line } := countBad_eq t
  refine ⟨fun cause link admits => ?bad, fun addr kind p h undefined => ?undefined, fun k addr p h ht => ⟨?ignored, ?untaken⟩,
    fun k addr p h hl => ?malformed⟩
  case bad =>
    refine (if_pos (by simp [link, admits])).trans ?_
    rw [closes, counts]
  case undefined =>
    refine (if_pos h).trans ?_
    rw [undefined]
    by_cases mine : addr.toNat = 0 ∨ addr.toNat = s.line.address
    · refine (if_pos (by simpa [forThisHalt] using mine)).trans ?_
      rw [if_pos mine, counts, finished]
    · refine (if_neg (by simpa [forThisHalt] using mine)).trans ?_
      rw [if_neg mine, finished]
  case ignored =>
    refine (if_pos h).trans ?_
    rw [ofCode_code]
    exact (if_neg (Bool.eq_false_iff.1 ht)).trans (congrArg Host.Outcome.next finished)
  case untaken => rw [exec_message_not_taken h ht, finished]
  case malformed =>
    rw [exec_message_malformed h hl, onMalformed]
    cases k.loadKind with
    | none => exact congrArg Host.Outcome.next ((counts _).trans (by rw [finished]))
    | some l => rw [finished]; rfl

/-! ## SERIAL_GRANT, HOLD and RELEASE -/

/-- Two ranges that are not empty have a serial in common (R95). -/
theorem rangesMeet_iff {a n b m : Nat} (hn : 1 ≤ n) (hm : 1 ≤ m) :
    rangesMeet a n b m = true ↔ ∃ x, a ≤ x ∧ x < a + n ∧ b ≤ x ∧ x < b + m := by
  rw [rangesMeet, Bool.and_eq_true, decide_eq_true_eq, decide_eq_true_eq]
  exact ⟨fun h => ⟨max a b, by omega⟩, fun ⟨x, h⟩ => by omega⟩

theorem readGrant_of_length {p : List Byte} (hl : p.length = 5) : readGrant p =
    some (max 1 (min (field p 0 3) 16777215), min (max 1 (min (field p 3 2) 2000)) (16777216 - max 1 (min (field p 0 3) 16777215))) :=
  if_pos hl

section Grant

variable {i : Issue} {first count : Nat}

theorem grantOutcome_full (h : 4 ≤ i.blocks.length) : grantOutcome i first count = .listFull := if_pos h

variable (room : i.blocks.length < 4) (stock : StockInv i) (hn : 1 ≤ count)
include room stock hn

theorem grantOutcome_overlap (h : ∃ b ∈ i.blocks, ∃ x, first ≤ x ∧ x < first + count ∧ b.next ≤ x ∧ x < b.next + b.count) :
    grantOutcome i first count = .overlap := by
  obtain ⟨b, hb, meets⟩ := h
  obtain ⟨-, -, one, -⟩ := stock.blockRange b hb
  refine (if_neg (Nat.not_le.2 room)).trans (if_pos (List.any_eq_true.2 ⟨b, hb, (rangesMeet_iff hn one).2 meets⟩))

variable (apart : ∀ b ∈ i.blocks, ¬ ∃ x, first ≤ x ∧ x < first + count ∧ b.next ≤ x ∧ x < b.next + b.count)
include apart

theorem grantOutcome_apart : grantOutcome i first count =
    if i.journal.any fun t => first ≤ t.serial && t.serial < first + count then .reissue else .accepted := by
  refine (if_neg (Nat.not_le.2 room)).trans (if_neg fun overlap => ?_)
  obtain ⟨b, hb, meets⟩ := List.any_eq_true.1 overlap
  obtain ⟨-, -, one, -⟩ := stock.blockRange b hb
  exact apart b hb ((rangesMeet_iff hn one).1 meets)

end Grant

/-- A record carries a serial of a range (R95). -/
theorem carries_iff {first count serial : Nat} : (decide (first ≤ serial) && decide (serial < first + count)) = true ↔
    ∃ x, first ≤ x ∧ x < first + count ∧ serial ≤ x ∧ x < serial + 1 := by
  rw [Bool.and_eq_true, decide_eq_true_eq, decide_eq_true_eq]
  exact ⟨fun h => ⟨serial, by omega⟩, fun ⟨x, h⟩ => by omega⟩

/-- Settles O44: the outcome of a grant by the order of its checks, and the table hold by its state. -/
theorem grantsAndHold : Obligations.GrantsAndHold := by
  unfold Obligations.GrantsAndHold
  refine fun addr s => ⟨fun p stock h hl => ?grant, fun h => ?hold, fun h => ?release⟩
  case grant =>
    intro first count meets reply
    have read : readGrant p = some (first, count) := readGrant_of_length hl
    obtain ⟨-, one, -⟩ := readGrant_range read
    have carried : exec (.serialGrant addr p) s = .next (takeGrant (first, count) (frameDone s)) :=
      congrArg Host.Outcome.next (onMessage_carried h read)
    have refused {o : LoadOutcome} (ho : grantOutcome s.issue first count = o) (hne : o ≠ .accepted) : reply o (frameDone s) := by
      have ho' : grantOutcome (frameDone s).issue first count = o := ho
      refine carried.trans (congrArg Host.Outcome.next ?_)
      rw [takeGrant, ho']
      exact congrArg (offerReply .serialGrant o (some first)) (if_neg hne)
    refine ⟨fun full => refused (grantOutcome_full full) nofun,
      fun room overlap => refused (grantOutcome_overlap room stock one overlap) nofun, fun room apart => ⟨fun reissue => ?_, fun fresh => ?_⟩⟩
    · refine refused ((grantOutcome_apart room stock one apart).trans (if_pos ?_)) nofun
      obtain ⟨t, ht, m⟩ := reissue
      exact List.any_eq_true.2 ⟨t, ht, carries_iff.2 m⟩
    · have accepted : grantOutcome (frameDone s).issue first count = .accepted :=
        (grantOutcome_apart room stock one apart).trans (if_neg fun reissue => by
          obtain ⟨t, ht, m⟩ := List.any_eq_true.1 reissue
          exact fresh t ht (carries_iff.1 m))
      refine carried.trans (congrArg Host.Outcome.next ?_)
      rw [takeGrant, accepted]
      rfl
  case hold =>
    have carried : exec (.hold addr []) s = .next (takeHold () (frameDone s)) :=
      congrArg Host.Outcome.next (onMessage_carried h (rfl : readNothing [] = some ()))
    rw [carried]
    have hold : (frameDone s).issue.hold = s.issue.hold := rfl
    refine ⟨fun free sale => ?_, fun free sale => ?_, fun asked => ?_, fun held => ?_⟩
    · have none : (frameDone s).issue.sale.isSome = false := by rw [show (frameDone s).issue.sale = .none from sale]; rfl
      rw [takeHold, hold, free]
      dsimp only
      rw [none]
      rfl
    · have some : (frameDone s).issue.sale.isSome = true := sale
      rw [takeHold, hold, free]
      dsimp only
      rw [some]
      rfl
    · rw [takeHold, hold, asked]
    · rw [takeHold, hold, held]
  case release =>
    have carried : exec (.releaseMessage addr []) s = .next (takeRelease () (frameDone s)) :=
      congrArg Host.Outcome.next (onMessage_carried h (rfl : readNothing [] = some ()))
    rw [carried]
    have hold : (frameDone s).issue.hold = s.issue.hold := rfl
    refine ⟨fun free => ?_, fun asked => ?_, fun held => ?_⟩
    · rw [takeRelease, hold, free]
    · rw [takeRelease, hold, asked]; rfl
    · rw [takeRelease, hold, held]; rfl

/-! ## The cold start and the state after reset -/

theorem evalDemandAt_rests {s : State} (low : Bool) (dark : s.screen.supply = .dark) (none : demand s = false) :
    evalDemandAt low s = s := by
  simp only [evalDemandAt, dark, none, Bool.false_eq_true, if_false]

/-- The straps read at a full reset (R120). -/
theorem readStraps_eq (straps : BitVec 4) (s : State) (h : s.line.address = 0) : readStraps straps s = { s with line := { s.line with
    address := straps.toNat
    link := if straps = 0 then s.line.link else .hunt } } := by
  rw [readStraps]
  split
  · next zero =>
    have same : (BitVec.toNat (0 : BitVec 4)) = s.line.address := h.symm
    rw [zero, same]
  · rfl

/-- Settles O4: the start actions of a cold start find nothing but the serial stock to report. -/
theorem coldStart_settled : Obligations.ColdStart := by
  unfold Obligations.ColdStart
  intro pins s loss
  have vport : (lowWater false (coldStart pins s)).vport = { PortState.reset with
      held := s.vport.held
      selLow := pins.vselLow
      framing := if pins.vselLow then .discard else .idle
      notices := if s.vport.held then 0 else VNotice.serialLow.bit } := by
    rw [lowWater_asks (show remaining [] < 50 by decide) rfl]
    show (if s.vport.held = true then _ else _ : PortState) = _
    have one : (0 : BitVec 16) ||| 0x0008#16 = VNotice.serialLow.bit := by decide
    split
    · rfl
    · exact congrArg (fun n : BitVec 16 => ({ PortState.reset with
        held := s.vport.held
        selLow := pins.vselLow
        framing := if pins.vselLow then .discard else .idle
        notices := n } : PortState)) one
  refine (if_pos loss).trans (congrArg Host.Outcome.next ?_)
  rw [endReset, readStraps_eq _ _ rfl, evalDemandAt_rests _ rfl rfl]
  exact State.ext_blocks rfl rfl rfl rfl rfl rfl rfl rfl vport rfl rfl rfl

/-- Settles O52: the blocks of the state after reset hold nothing that could break an invariant. -/
theorem resetIsSound : Obligations.ResetIsSound := by
  unfold Obligations.ResetIsSound
  show _ ∧ _ ∧ _ ∧ StockInv { Issue.reset with askTimer := some Config.askRepeat } ∧ _ ∧ ClockInv Clock.reset ∧
    Params.defaults.InRange ∧ FareInv FareTable.defaults ∧ LinkInv { Line.reset with routine := [.serialAsk 0] } ∧
    QueueInv { Line.reset with routine := [.serialAsk 0] } ∧ PlatformInv Platform.reset ∧ _ ∧ _ ∧
    PortInv .vending { PortState.reset with notices := 0x0008#16 } ∧ PortInv .signage PortState.reset
  refine ⟨⟨.nil, .nil, fun _ => rfl⟩,
    ⟨fun _ hc => absurd hc List.not_mem_nil, fun _ hi => absurd hi List.not_mem_nil, List.nodup_nil, by decide, nofun⟩,
    ⟨nofun, nofun, fun _ => rfl, rfl, nofun⟩,
    Issue.reset_stock.congr rfl rfl rfl, ⟨nofun, Nat.le_refl 0, fun f hf => absurd hf (Option.not_mem_none f), fun h => absurd h Bool.false_ne_true⟩,
    ⟨⟨Nat.zero_le _, Nat.zero_le _⟩, rfl, Nat.zero_le _, Nat.zero_le _, rfl, rfl⟩,
    Params.defaults_inRange, FareTable.defaults_inv,
    ⟨by decide, rfl, rfl, rfl, rfl, nofun, fun _ => rfl, fun _ => rfl, fun f hf => absurd hf (Option.not_mem_none f), .inl rfl, .inl rfl,
      by decide, by decide⟩,
    ⟨by decide, by decide, by decide, nofun, by decide⟩,
    ⟨nofun, rfl, rfl, rfl, rfl, rfl, rfl, rfl, rfl⟩, .of_reset rfl, ⟨rfl, rfl, rfl, by decide, fun _ => rfl, nofun⟩,
    ⟨by decide, by decide, Or.inl rfl, rfl⟩, ⟨by decide, by decide, Or.inl rfl, rfl⟩⟩

end Sys2Proof.Machine


/-! A frame sent whole (R113, R115, R118, R133, R139): its source, by the kind of frame. -/

namespace Sys2Proof.Machine

-- One theorem at a time: the whole text is checked in one process.
set_option Elab.async false

section Complete

variable {s : State} {f : TxFrame} (htx : s.line.tx = some f) (echo : f.echo = .equal) (rest : f.rest = [])
include htx echo rest

theorem exec_frameComplete : exec .frameComplete s = .next (sourceSent f (raiseThreshold f.source s)) := by
  show execFrameComplete s = _
  rw [execFrameComplete, htx]
  exact if_pos (by simp [echo, rest])

end Complete

/-- The line after a STATUS frame (R133, R148). -/
theorem statusSent_eq (f : TxFrame) (l : Line) : l.statusSent f =
    let m : Line := { l with tableReused := l.tableReused && !(f.reused && !f.rearmed), statusOwed := false }
    if l.statusOwed = true ∧ Item.status ∉ m.urgent ∧ Item.status ∉ m.routine then m.enqueue l.classMap.status .status else m := by
  have reused : (if f.reused && !f.rearmed then false else l.tableReused) = (l.tableReused && !(f.reused && !f.rearmed)) := by
    cases f.reused && !f.rearmed <;> simp
  have idle (m : Line) : (!m.statusQueued) = true ↔ Item.status ∉ m.urgent ∧ Item.status ∉ m.routine := by
    rw [Bool.not_eq_true', Bool.eq_false_iff, ne_eq, statusQueued_iff, not_or]
  rw [Line.statusSent, reused]
  exact if_congr (by rw [Bool.and_eq_true, idle]) rfl rfl

/-- Settles O51: `sourceSent` by the source of the frame. -/
theorem framesCompleted : Obligations.FramesCompleted := by
  unfold Obligations.FramesCompleted
  intro s f htx echo rest urgentUp routineUp
  rw [exec_frameComplete htx echo rest]
  refine ⟨fun src => ?join, fun n o w src queued => ?stopQueued, fun n o w src removed => ?stopRemoved, fun i src stop status => ?urgent,
    fun i src stop status => ?routine, fun src => ?urgentStatus, fun src => ?routineStatus, fun n src => ?sale⟩
  case join => rw [sourceSent, src]; rfl
  case stopQueued =>
    rw [sourceSent, src]
    simp only [itemSent, queued, if_true]
    rfl
  case stopRemoved =>
    rw [sourceSent, src]
    simp only [itemSent, removed, Bool.false_eq_true, if_false]
    rfl
  case urgent =>
    have report (t : State) : itemSent f i t = t := by cases i <;> simp_all [itemSent, Item.stopOf]
    rw [sourceSent, src]
    simp only [report]
    rfl
  case routine =>
    have report (t : State) : itemSent f i t = t := by cases i <;> simp_all [itemSent, Item.stopOf]
    rw [sourceSent, src]
    simp only [report]
    cases f.queued <;> rfl
  case urgentStatus =>
    rw [sourceSent, src]
    simp only [itemSent, statusSent, statusSent_eq]
    cases f.queued <;> rfl
  case routineStatus =>
    have sent : sourceSent f (raiseThreshold f.source s) = { s with line := Line.statusSent f { routineUp with
        turn := .journal
        routine := if f.queued then s.line.routine.tail else s.line.routine } } := by
      rw [sourceSent, src]
      cases f.queued <;> rfl
    rw [sent, statusSent_eq]
    refine ⟨fun stays => ?_, fun owed idle => ?_⟩
    · refine congrArg (fun l => Host.Outcome.next { s with line := l }) (if_neg ?_)
      rintro offers
      rcases stays with owed | queued
      · exact Bool.false_ne_true (owed.symm.trans offers.1)
      · exact queued.elim offers.2.1 offers.2.2
    · have offers := And.intro owed (not_or.1 idle)
      exact congrArg (fun l => Host.Outcome.next { s with line := l }) (if_pos offers)
  case sale =>
    have cursor : (if s.line.cursor = some n then cursorAfter s.issue.journal n else s.line.cursor) =
        if s.line.cursor ≠ some n then s.line.cursor
        else if s.issue.journal.any (fun t => t.sequence = n + 1) then some (n + 1) else none := by
      rw [ite_not]
      rfl
    rw [sourceSent, src]
    simp only [← cursor]
    rfl

end Sys2Proof.Machine


/-! A COMMIT (R85, R86, R94 to R99, R102, R138, R19): its refusals, and what an accepted one does. -/

namespace Sys2Proof.Machine

-- One theorem at a time: the whole text is checked in one process.
set_option Elab.async false

/-! ## A commit reported to the call table (R19) -/

section Report

variable (s : State) (call : Option Nat)

/-- The commit is that of a call whose stop it asks for. -/
def asksStop : Bool := call.any fun n => takesStop n s

/-- A call after the commit of a ticket (R19). -/
def soldCall (c : Call) : Call :=
  let d : Call := if call = some c.service then { c with sold := satSucc 255 c.sold } else c
  if asksStop s call && decide (call = some c.service) then stopFrom s.line.params s.now .ticket d else d

theorem soldCall_service (c : Call) : (soldCall s call c).service = c.service := by
  simp only [soldCall]
  split <;> split <;> rfl

/-- The state with one more ticket of a call sold. -/
def soldOnce (n : Nat) : State := s.mapCall n fun c => { c with sold := satSucc 255 c.sold }

theorem call_soldOnce (n : Nat) : (soldOnce s n).call n = (s.call n).map fun c => { c with sold := satSucc 255 c.sold } := by
  show bankFind n (s.calls.active.map _) = (bankFind n s.calls.active).map _
  rw [bankFind_map n _ _ fun c => by split <;> rfl]
  cases h : bankFind n s.calls.active with
  | none => rfl
  | some c => rw [Option.map_some, if_pos (bankFind_some h).2, Option.map_some]

theorem takesStop_soldOnce (n : Nat) : takesStop n (soldOnce s n) = takesStop n s := by
  rw [takesStop, takesStop, call_soldOnce]
  exact Option.any_map ..

/-- A commit reported to the call table (R19). -/
theorem reportCommit_eq : reportCommit call s =
    let t := s.mapActive (soldCall s call)
    if asksStop s call && (call.bind t.call).any (fun c => c.stop = .wanted) then offerStops t else t := by
  cases call with
  | none =>
    have same : s.mapActive (soldCall s none) = s := by
      have each : soldCall s none = fun c => c := funext fun c => rfl
      rw [State.mapActive, each, List.map_id']
    exact same.symm
  | some n =>
    have asks : asksStop s (some n) = takesStop n s := rfl
    have number (c : Call) : (some n = some c.service) = (c.service = n) := propext ⟨fun h => (Option.some.inj h).symm, fun h => by rw [h]⟩
    show wantStop n .ticket (soldOnce s n) = _
    rw [wantStop, takesStop_soldOnce, asks]
    cases takes : takesStop n s with
    | false =>
      have each : soldCall s (some n) = fun c => if c.service = n then { c with sold := satSucc 255 c.sold } else c :=
        funext fun c => by simp only [soldCall, asks, takes, Bool.false_and, Bool.false_eq_true, if_false, number]
      rw [each]
      rfl
    | true =>
      have each : (soldOnce s n).mapCall n (stopFrom s.line.params s.now .ticket) = s.mapActive (soldCall s (some n)) := by
        have both : soldCall s (some n) = (fun c => if c.service = n then stopFrom s.line.params s.now .ticket c else c) ∘
            fun c => if c.service = n then { c with sold := satSucc 255 c.sold } else c := funext fun c => by
          simp only [soldCall, asks, takes, Bool.true_and, decide_eq_true_eq, number, Function.comp_apply]
          by_cases h : c.service = n <;> simp [h]
        rw [both]
        exact congrArg (fun bank => ({ s with calls := { s.calls with active := bank } } : State)) List.map_map
      exact congrArg (fun t : State => if (t.call n).any (fun c => c.stop = .wanted) then offerStops t else t) each

theorem reportCommit_calls : (reportCommit call s).calls = { s.calls with active := s.calls.active.map (soldCall s call) } := by
  rw [reportCommit_eq]
  dsimp only
  split <;> rfl

/-- A field of the line that neither an offer nor the discipline of the queues touches. -/
theorem reportCommit_line {α : Type} (g : Line → α) (hg : ∀ cs l, g (Line.offerAll cs l) = g l) :
    g (reportCommit call s).line = g s.line := by
  rw [reportCommit_eq]
  dsimp only
  split
  · exact hg _ _
  · rfl

end Report

/-! ## The refusals of a COMMIT -/

section Refusals

variable {port : Port} {req : Request} {p : List Byte} {s : State}

theorem readCommit_of {p : List Byte} (hl : p.length = 1) (hc : field p 0 1 ≤ 3) : readCommit p = some (field p 0 1) :=
  if_pos (by simp [hl, hc])

theorem exec_commit (h : takesTransaction s port) (hf : wellFramed .commit port req p) (hl : p.length = 1) (hc : field p 0 1 ≤ 3) :
    exec (.commit port req) s = .next (carryCommit port (field p 0 1) (requestTaken port s)) :=
  congrArg Host.Outcome.next (onRequest_carried h hf (readCommit_of hl hc))

theorem carryCommit_refused {s : State} {pay : Nat} {r : Status} (h : commitRefusal s = some r) :
    carryCommit port pay s = refuse port r s := by
  rw [carryCommit, h]

theorem journalFull_iff {i : Issue} : journalFull i = true ↔ 400 ≤ i.journal.length ∨ 4294967295 ≤ i.sequence := by
  simp only [journalFull, Bool.or_eq_true, decide_eq_true_eq]
  rfl

theorem commitRefusal_requestTaken : commitRefusal (requestTaken port s) = commitRefusal s := by
  rw [commitRefusal, commitRefusal, requestTaken_issue]

end Refusals

/-! ## What an accepted COMMIT does -/

section Committed

variable (x : Sale) (t : Ticket) (s : State)

/-- The state of an accepted COMMIT once the sale is removed. -/
def afterReport : State :=
  let u := reportCommit x.call (appendTicket t s)
  { u with issue := { u.issue with sale := none } }

/-- The commit takes the stock of serials below 50 (R96). -/
def crossesLow : Bool := Config.lowWater ≤ remaining s.issue.blocks && remaining (afterReport x t s).issue.blocks < Config.lowWater

/-- The state of an accepted COMMIT before the board and demand. -/
def committed : State := grantAsked (nearFullTest (lowWater (crossesLow x t s) (afterReport x t s)))

theorem commitSale_eq : commitSale x t s =
    if asksStop s x.call then rebuild (committed x t s) else evalDemand (committed x t s) := rfl

theorem afterReport_issue : (afterReport x t s).issue = { s.issue with
    sale := none
    blocks := takeSerial s.issue.blocks
    journal := s.issue.journal ++ [t]
    sequence := t.sequence } := by
  simp only [afterReport, reportCommit_issue]
  rfl

theorem grantAsked_issue (s : State) : (grantAsked s).issue = { s.issue with
    hold := if s.issue.hold = .asked then .held else s.issue.hold
    limitTimer := if s.issue.hold = .asked then some 9600 else s.issue.limitTimer } := by
  rw [grantAsked]
  split <;> rfl

theorem lowWater_issue (b : Bool) (s : State) : ∃ ask, (lowWater b s).issue = { s.issue with askTimer := ask } := by
  rw [lowWater]
  split
  · exact ⟨_, rfl⟩
  · exact ⟨_, rfl⟩

theorem commitSale_issue : ∃ ask, (commitSale x t s).issue = { s.issue with
    sale := none
    blocks := takeSerial s.issue.blocks
    journal := s.issue.journal ++ [t]
    sequence := t.sequence
    hold := if s.issue.hold = .asked then .held else s.issue.hold
    limitTimer := if s.issue.hold = .asked then some 9600 else s.issue.limitTimer
    askTimer := ask } := by
  have same : (commitSale x t s).issue = (committed x t s).issue := by
    rw [commitSale_eq]
    split
    · exact rebuild_issue _
    · exact evalDemand_issue _
  obtain ⟨ask, asked⟩ := lowWater_issue (crossesLow x t s) (afterReport x t s)
  refine ⟨ask, ?_⟩
  rw [same, committed, grantAsked_issue, nearFullTest_issue, asked, afterReport_issue]

/-- A field of the line that neither an offer nor an enqueued item touches. -/
theorem commitSale_line {α : Type} (g : Line → α) (hq : ∀ k i l, g (Line.enqueue k i l) = g l)
    (ho : ∀ cs l, g (Line.offerAll cs l) = g l) : g (commitSale x t s).line = g (appendTicket t s).line := by
  have same : (commitSale x t s).line = (committed x t s).line := by
    rw [commitSale_eq]
    split
    · exact rebuild_line _
    · exact evalDemand_line _
  have granted (s : State) : g (grantAsked s).line = g s.line := by
    rw [grantAsked]
    split
    · exact hq _ _ _
    · rfl
  have asked (b : Bool) (s : State) : g (lowWater b s).line = g s.line := by
    rw [lowWater]
    split
    · exact hq _ _ _
    · rfl
  rw [same, committed, granted, nearFullTest_line, asked]
  exact reportCommit_line (appendTicket t s) x.call g ho

theorem commitSale_calls : (commitSale x t s).calls = { s.calls with
    active := s.calls.active.map (soldCall (appendTicket t s) x.call) } := by
  have same : (commitSale x t s).calls = (committed x t s).calls := by
    rw [commitSale_eq]
    split
    · exact rebuild_calls _
    · exact evalDemand_calls _
  rw [same, committed, grantAsked_calls, nearFullTest_calls, lowWater_calls, afterReport, reportCommit_calls]
  rfl

theorem PortState.latch_held (p : PortState) (b : BitVec 16) : (p.latch b).held = p.held := by
  rw [PortState.latch]
  split <;> rfl

theorem latch_and_ne_zero {p : PortState} {b : BitVec 16} (h : p.notices &&& b ≠ 0) (d : BitVec 16) : (p.latch d).notices &&& b ≠ 0 := by
  rw [PortState.latch]
  split
  · exact h
  · intro zero
    rw [BitVec.and_comm, BitVec.and_or_distrib_left] at zero
    exact h (by rw [BitVec.and_comm]; exact (BitVec.or_eq_zero_iff.1 zero).1)

theorem latch_and_self {p : PortState} {b : BitVec 16} (free : p.held = false) : (p.latch b).notices &&& b = b := by
  rw [PortState.latch, if_neg (by rw [free]; nofun)]
  exact BitVec.eq_of_getLsbD_eq fun i _ => by
    simp only [BitVec.getLsbD_and, BitVec.getLsbD_or]
    cases b.getLsbD i <;> simp

/-- The append that brings the journal to 352 records latches JOURNAL_NEAR_FULL (R99). -/
theorem commitSale_nearFull (room : s.issue.journal.length = 351) (free : s.vport.held = false) :
    (commitSale x t s).vport.notices &&& 0x0010#16 ≠ 0 := by
  have same : (commitSale x t s).vport = (committed x t s).vport := by
    rw [commitSale_eq]
    split
    · exact rebuild_vport _
    · exact evalDemand_vport _
  have free' : (lowWater (crossesLow x t s) (afterReport x t s)).vport.held = false := by
    rw [lowWater]
    split
    · simpa [afterReport, appendTicket, PortState.latch_held] using free
    · simpa [afterReport, appendTicket] using free
  have full : (lowWater (crossesLow x t s) (afterReport x t s)).issue.journal.length = Config.nearFull := by
    obtain ⟨ask, asked⟩ := lowWater_issue (crossesLow x t s) (afterReport x t s)
    rw [asked, afterReport_issue]
    simp [room, Config.nearFull]
  have near : (nearFullTest (lowWater (crossesLow x t s) (afterReport x t s))).vport.notices &&& 0x0010#16 ≠ 0 := by
    rw [nearFullTest, if_pos full]
    show ((lowWater (crossesLow x t s) (afterReport x t s)).vport.latch 0x0010#16).notices &&& 0x0010#16 ≠ 0
    rw [latch_and_self free']
    decide
  rw [same, committed, grantAsked]
  split
  · exact latch_and_ne_zero near _
  · exact near

end Committed

/-! ## The whole state after an accepted COMMIT -/

section Whole

variable {x : Sale} {t : Ticket} {s : State} (good : GoodBank s.calls.active)
include good

/-- The call of the sale asks for a stop (R19). -/
theorem asksStop_eq : asksStop s x.call =
    s.calls.active.any fun c => x.call = some c.service && c.kind = .request && c.stop = .none := by
  rw [Bool.eq_iff_iff, asksStop, Option.any_eq_true, List.any_eq_true]
  refine ⟨fun ⟨n, hn, takes⟩ => ?_, fun ⟨c, hc, asks⟩ => ?_⟩
  · obtain ⟨c, hc, rfl, asks⟩ := bankFind_any takes
    exact ⟨c, hc, by simpa [hn] using asks⟩
  · simp only [Bool.and_eq_true, decide_eq_true_eq] at asks
    obtain ⟨⟨hn, kind⟩, stop⟩ := asks
    exact ⟨c.service, hn, by rw [takesStop_of_mem good hc, kind, stop]; rfl⟩

/-- A call of the bank after the commit of a ticket, by what it asks for (R19). -/
theorem soldCall_of_mem {c : Call} (hc : c ∈ s.calls.active) : soldCall s x.call c =
    let d : Call := if x.call = some c.service then { c with sold := min (c.sold + 1) 255 } else c
    if x.call = some c.service && c.kind = .request && c.stop = .none then { d with
      stop := if (approach c).any fun a => s.clock.time.sec + s.line.params.requestMargin < a then .wanted else .late
      origin := some .ticket
      wantedAt := some s.clock.time.sec }
    else d := by
  by_cases bound : x.call = some c.service
  · have asks : asksStop s (some c.service) = (decide (c.kind = .request) && decide (c.stop = .none)) := by
      rw [asksStop, Option.any_some, takesStop_of_mem good hc]
    have early : isBefore s.now (requestCutoff s.line.params { c with sold := satSucc 255 c.sold })
        = (approach c).any fun a => decide (s.clock.time.sec + s.line.params.requestMargin < a) := isBefore_requestCutoff _ _ _
    simp only [soldCall, asks, bound, if_true, decide_true, Bool.and_true, Bool.true_and, stopFrom, early]
    rfl
  · simp only [soldCall, bound, if_false, decide_false, Bool.and_false, Bool.false_and, Bool.false_eq_true]

/-- The stop the commit asks for is WANTED, so that its STOP_REQUEST is offered (R20). -/
theorem reportCommit_offers : (asksStop s x.call &&
      (x.call.bind (s.mapActive (soldCall s x.call)).call).any fun c => c.stop = .wanted) =
    s.calls.active.any fun c => (x.call = some c.service && c.kind = .request && c.stop = .none) &&
      (approach c).any fun a => s.clock.time.sec + s.line.params.requestMargin < a := by
  by_cases some : ∃ c ∈ s.calls.active, (x.call = some c.service && c.kind = .request && c.stop = .none) = true
  · obtain ⟨c, hc, asks⟩ := some
    have asksAny : asksStop s x.call = true := by
      rw [asksStop_eq good]
      exact List.any_eq_true.2 ⟨c, hc, asks⟩
    have bound : x.call = some c.service := by
      simp only [Bool.and_eq_true, decide_eq_true_eq] at asks
      exact asks.1.1
    have found : (x.call.bind (s.mapActive (soldCall s x.call)).call) = some (soldCall s x.call c) := by
      rw [bound, Option.bind_some]
      show bankFind c.service (s.calls.active.map _) = _
      rw [bankFind_map _ _ _ (soldCall_service s _), good.find hc]
      rfl
    have wanted : (decide ((soldCall s x.call c).stop = .wanted)) =
        (approach c).any fun a => s.clock.time.sec + s.line.params.requestMargin < a := by
      rw [soldCall_of_mem good hc]
      dsimp only
      rw [if_pos asks]
      cases (approach c).any fun a => s.clock.time.sec + s.line.params.requestMargin < a <;> rfl
    rw [asksAny, found, Bool.true_and, Option.any_some, wanted, Bool.eq_iff_iff, List.any_eq_true]
    refine ⟨fun early => ⟨c, hc, by rw [asks, early]; rfl⟩, fun ⟨d, hd, both⟩ => ?_⟩
    rw [Bool.and_eq_true] at both
    have same : d.service = c.service := by
      have bound' := both.1
      simp only [Bool.and_eq_true, decide_eq_true_eq, bound, Option.some.injEq] at bound'
      exact bound'.1.1.symm
    rw [good.unique hd hc same] at both
    exact both.2
  · have asksNone : asksStop s x.call = false := by
      rw [asksStop_eq good]
      exact List.any_eq_false.2 fun c hc asks => some ⟨c, hc, asks⟩
    rw [asksNone, Bool.false_and]
    exact (List.any_eq_false.2 fun c hc both => some ⟨c, hc, Bool.and_elim_left both⟩).symm

end Whole

section Accepted

variable {port : Port} {req : Request} {p : List Byte} {x : Sale} {b : Block} {bs : List Block} {s : State}

/-- The block list after a serial of its oldest block has been taken (R94). -/
theorem takeSerial_eq (one : 1 ≤ b.count) : takeSerial (b :: bs) =
    if b.count = 1 then bs else { b with next := b.next + 1, count := b.count - 1 } :: bs :=
  if_congr (by omega) rfl rfl

theorem remaining_takeSerial (one : 1 ≤ b.count) : remaining (takeSerial (b :: bs)) = remaining (b :: bs) - 1 := by
  have whole : remaining (b :: bs) = b.count + remaining bs := rfl
  rw [takeSerial_eq one, whole]
  split
  · omega
  · show b.count - 1 + remaining bs = _
    omega

variable (hx : s.issue.sale = some x) (quoted : x.state = .quoted) (hbs : s.issue.blocks = b :: bs) (one : 1 ≤ b.count)
  (room : s.issue.journal.length < 400) (counter : s.issue.sequence < 4294967295)
include hx quoted hbs one room counter

theorem commitRefusal_none_of : commitRefusal s = none := by
  have notFull : ¬ journalFull s.issue = true := by
    rw [journalFull_iff]
    omega
  have some : ¬ remaining s.issue.blocks = 0 := by
    have whole : remaining (b :: bs) = b.count + remaining bs := rfl
    rw [hbs, whole]
    omega
  rw [commitRefusal, hx]
  exact (if_neg (by rw [quoted]; nofun)).trans ((if_neg notFull).trans (if_neg some))

theorem carryCommit_accepted (port : Port) (pay : Nat) : carryCommit port pay s = answer port (ticketBytes (newTicket s x pay))
    (commitSale x (newTicket s x pay) s) := by
  rw [carryCommit, commitRefusal_none_of hx quoted hbs one room counter, hx]

end Accepted

section Frame

variable (x : Sale) (t : Ticket) (s : State)

theorem commitSale_clock : (commitSale x t s).clock = s.clock := by
  rw [commitSale_eq]
  split <;> simp [committed, afterReport, appendTicket]

theorem commitSale_fares : (commitSale x t s).fares = s.fares := by
  rw [commitSale_eq]
  split <;> simp [committed, afterReport, appendTicket]

theorem commitSale_platform : (commitSale x t s).platform = s.platform := by
  rw [commitSale_eq]
  split <;> simp [committed, afterReport, appendTicket]

theorem commitSale_pending : (commitSale x t s).pending = s.pending := by
  rw [commitSale_eq]
  split <;> simp [committed, afterReport, appendTicket]

end Frame

/-- What the commit of a ticket leaves of the call table (R19). -/
theorem commitSale_schedule (x : Sale) (t : Ticket) (s : State) :
    (commitSale x t s).calls.active.map (fun c => (c.toScheduled, c.state, c.notice, c.ea, c.ed, c.aa, c.ad, c.sold)) =
      s.calls.active.map fun c => (c.toScheduled, c.state, c.notice, c.ea, c.ed, c.aa, c.ad,
        if x.call = some c.service then min (c.sold + 1) 255 else c.sold) := by
  rw [commitSale_calls, List.map_map]
  refine List.map_congr_left fun c _ => ?_
  simp only [Function.comp_apply, soldCall]
  split <;> split <;> rfl

/-- Settles O35: the checks by `commitRefusal`, and the whole state by the parts of `commitSale`. -/
theorem commitTaken : Obligations.CommitTaken := by
  unfold Obligations.CommitTaken
  refine ⟨fun port req p s h hf hl hc => ?refused, fun port req p x b bs s h hf hl hc hx state hbs one room counter => ?taken⟩
  case refused =>
    intro refused isFull
    have carried {r : Status} (hr : commitRefusal s = some r) : refused r := by
      refine (exec_commit h hf hl hc).trans (congrArg Host.Outcome.next ?_)
      rw [carryCommit_refused (commitRefusal_requestTaken.trans hr), refuse, respond_requestTaken]
    have full : journalFull s.issue = true ↔ isFull := journalFull_iff
    refine ⟨fun none => carried (by rw [commitRefusal, none]), fun x hx => ⟨fun void => carried ?_, fun quoted isFull => carried ?_,
      fun quoted room empty => carried ?_⟩⟩
    · rw [commitRefusal, hx]
      exact if_pos void
    · rw [commitRefusal, hx]
      exact (if_neg (by rw [quoted]; nofun)).trans (if_pos (full.2 isFull))
    · have none : remaining s.issue.blocks = 0 :=
        List.sum_eq_zero fun n hn => by obtain ⟨b, hb, rfl⟩ := List.mem_map.1 hn; exact empty b hb
      rw [commitRefusal, hx]
      exact (if_neg (by rw [quoted]; nofun)).trans ((if_neg (mt full.1 room)).trans (if_pos none))
  case taken =>
    intro record blocks
    have taken : exec (.commit port req) s = .next (answer port (ticketBytes record) (commitSale x record (requestTaken port s))) := by
      refine (exec_commit h hf hl hc).trans (congrArg Host.Outcome.next ?_)
      have ticket : newTicket (requestTaken port s) x (field p 0 1) = record := by
        simp only [newTicket, requestTaken_issue, hbs, State.now, requestTaken_clock]
        rfl
      rw [carryCommit_accepted (s := requestTaken port s) (by simpa using hx) state (by simpa using hbs) one (by simpa using room)
        (by simpa using counter), ticket]
    have blocksLeft : takeSerial (requestTaken port s).issue.blocks = blocks := by
      rw [requestTaken_issue, hbs, takeSerial_eq one]
    refine ⟨⟨_, taken, ?fields⟩, fun good => ?whole⟩
    case fields =>
      obtain ⟨ask, issue⟩ := commitSale_issue x record (requestTaken port s)
      rw [blocksLeft, requestTaken_issue] at issue
      have line {α : Type} (g : Line → α) (hq : ∀ k i l, g (Line.enqueue k i l) = g l) (ho : ∀ cs l, g (Line.offerAll cs l) = g l) :=
        commitSale_line x record (requestTaken port s) g hq ho
      have calls := commitSale_calls x record (requestTaken port s)
      have whole := (respond_issue port { status := .ok, payload := ticketBytes record } _).trans issue
      have lineField {α : Type} (g : Line → α) (hq : ∀ k i l, g (Line.enqueue k i l) = g l)
          (ho : ∀ cs l, g (Line.offerAll cs l) = g l) := (congrArg g (respond_line port { status := .ok, payload := ticketBytes record }
            (commitSale x record (requestTaken port s)))).trans (line g hq ho)
      have table := (respond_calls port { status := .ok, payload := ticketBytes record } _).trans calls
      refine ⟨congrArg Issue.journal whole, congrArg Issue.sequence whole, congrArg Issue.blocks whole, congrArg Issue.sale whole,
        congrArg Issue.hold whole, congrArg Issue.limitTimer whole, (congrArg Issue.quoteDemand whole).trans rfl, by simp [answer, respond],
        (lineField Line.cursor (fun _ _ _ => rfl) Line.offerAll_cursor).trans ?cursor,
        (lineField Line.highestSent (fun _ _ _ => rfl) Line.offerAll_highestSent).trans ?highest,
        (lineField Line.saleAckTimer (fun _ _ _ => rfl) Line.offerAll_saleAckTimer).trans ?timer,
        (congrArg CallTable.next table).trans ?next, (congrArg CallTable.nextState table).trans ?nextState, ?schedule, ?near, ?clock,
        ?fares, ?platform, (lineField Line.params (fun _ _ _ => rfl) Line.offerAll_params).trans ?params,
        (lineField Line.link (fun _ _ _ => rfl) Line.offerAll_link).trans ?link, ?pending⟩
      case cursor =>
        show (requestTaken port s).line.cursor.or (some (s.issue.sequence + 1)) = _
        rw [requestTaken_line]
        cases s.line.cursor <;> rfl
      case highest | timer | params | link => simp [appendTicket]
      case next | nextState => simp
      case schedule =>
        have same : (answer port (ticketBytes record) (commitSale x record (requestTaken port s))).calls =
            (commitSale x record (requestTaken port s)).calls := respond_calls ..
        rw [same]
        exact (commitSale_schedule x record (requestTaken port s)).trans (by rw [requestTaken_calls])
      case near =>
        rintro room' free rfl
        exact commitSale_nearFull x record (requestTaken .vending s) room'.symm free
      case clock | fares | platform | pending =>
        simp only [answer, respond_clock, respond_fares, respond_platform, respond_pending, commitSale_clock, commitSale_fares,
          commitSale_platform, commitSale_pending]
        cases port <;> rfl
    case whole =>
      intro now before isAsking isEarly sold offered asked near granted
      have good' : GoodBank (appendTicket record (requestTaken port s)).calls.active := by
        show GoodBank (requestTaken port s).calls.active
        rw [requestTaken_calls]
        exact good
      have asks : asksStop (requestTaken port s) x.call = s.calls.active.any isAsking := by
        rw [asksStop_eq (by rw [requestTaken_calls]; exact good), requestTaken_calls]
      have table : (appendTicket record (requestTaken port s)).calls = s.calls := requestTaken_calls port s
      have clock : (appendTicket record (requestTaken port s)).clock = s.clock := requestTaken_clock port s
      have params : (appendTicket record (requestTaken port s)).line.params = s.line.params := by
        show (requestTaken port s).line.params = _
        rw [requestTaken_line]
      have offers := reportCommit_offers (x := x) good'
      rw [table, clock, params] at offers
      have bank : (appendTicket record (requestTaken port s)).calls.active.map
          (soldCall (appendTicket record (requestTaken port s)) x.call) = sold.calls.active := by
        rw [List.map_congr_left fun c hc => soldCall_of_mem (x := x) good' hc, clock, params, table]
      have issue : (appendTicket record (requestTaken port s)).issue = { s.issue with
          blocks := blocks, journal := s.issue.journal ++ [record], sequence := s.issue.sequence + 1 } := by
        rw [appendTicket, blocksLeft, requestTaken_issue]
      have line : (appendTicket record (requestTaken port s)).line = sold.line := by
        simp only [appendTicket, requestTaken_line, sold]
        cases s.line.cursor <;> rfl
      have calls : { (appendTicket record (requestTaken port s)).calls with
          active := (appendTicket record (requestTaken port s)).calls.active.map
            (soldCall (appendTicket record (requestTaken port s)) x.call) } = sold.calls := by rw [bank, table]
      have state : { (appendTicket record (requestTaken port s)).mapActive (soldCall (appendTicket record (requestTaken port s)) x.call) with
          issue := { (appendTicket record (requestTaken port s)).issue with sale := none } } = sold :=
        State.ext_blocks calls rfl rfl rfl (by rw [issue]) line rfl rfl rfl rfl rfl rfl
      have reported : afterReport x record (requestTaken port s) = offered := by
        rw [afterReport, reportCommit_eq]
        dsimp only
        rw [offers]
        by_cases early : (s.calls.active.any fun c => isAsking c && isEarly c) = true
        · refine Eq.trans ?_ (if_pos early).symm
          rw [← state]
          have early' : (s.calls.active.any fun c => (x.call = some c.service && c.kind = .request && c.stop = .none) &&
              (approach c).any fun a => s.clock.time.sec + s.line.params.requestMargin < a) = true := early
          rw [if_pos early']
          rfl
        · refine Eq.trans ?_ (if_neg early).symm
          rw [← state]
          have late : ¬ (s.calls.active.any fun c => (x.call = some c.service && c.kind = .request && c.stop = .none) &&
              (approach c).any fun a => s.clock.time.sec + s.line.params.requestMargin < a) = true := early
          rw [if_neg late]
          rfl
      have offeredIssue : offered.issue = sold.issue := by
        simp only [offered]
        split <;> rfl
      have offeredMap : offered.line.classMap = s.line.classMap := by
        simp only [offered]
        split
        · exact Line.offerAll_classMap _ _
        · rfl
      have left : remaining offered.issue.blocks = before - 1 := by
        rw [offeredIssue]
        show remaining blocks = remaining s.issue.blocks - 1
        rw [← blocksLeft, requestTaken_issue, hbs, remaining_takeSerial one]
      have asked' : lowWater (crossesLow x record (requestTaken port s)) offered = asked := by
        have low : (crossesLow x record (requestTaken port s) ||
            (decide (remaining offered.issue.blocks < Config.lowWater) && offered.issue.askTimer.isNone)) = true ↔
            before - 1 < 50 ∧ (50 ≤ before ∨ s.issue.askTimer = none) := by
          have timer : offered.issue.askTimer = s.issue.askTimer := by rw [offeredIssue]
          have stock : remaining (requestTaken port s).issue.blocks = before := by rw [requestTaken_issue]; rfl
          rw [crossesLow, reported, left, timer, stock]
          simp only [Bool.or_eq_true, Bool.and_eq_true, decide_eq_true_eq, Option.isNone_iff_eq_none]
          exact ⟨fun h => h.elim (fun h => ⟨h.2, Or.inl h.1⟩) fun h => ⟨h.1, Or.inr h.2⟩,
            fun ⟨h, k⟩ => k.elim (fun k => Or.inl ⟨k, h⟩) fun k => Or.inr ⟨h, k⟩⟩
        refine if_congr low ?_ rfl
        show latchV .serialLow { offered with
          issue := { offered.issue with askTimer := some Config.askRepeat }
          line := offered.line.enqueue offered.line.classMap.serialAsk (.serialAsk (remaining offered.issue.blocks)) } = _
        rw [offeredMap, left]
        rfl
      have askedIssue : asked.issue.journal = s.issue.journal ++ [record] ∧ asked.issue.hold = s.issue.hold := by
        simp only [asked]
        split
        · simp only [offeredIssue]; exact ⟨rfl, rfl⟩
        · simp only [offeredIssue]; exact ⟨rfl, rfl⟩
      have askedMap : asked.line.classMap = s.line.classMap := by
        simp only [asked]
        split <;> exact offeredMap
      have near' : nearFullTest asked = near := by
        refine if_congr ?_ rfl rfl
        rw [askedIssue.1, List.length_append]
        exact Nat.add_right_cancel_iff (n := 1) (m := s.issue.journal.length) (k := 351)
      have nearHold : near.issue.hold = s.issue.hold := by
        simp only [near]
        split <;> exact askedIssue.2
      have nearMap : near.line.classMap = s.line.classMap := by
        simp only [near]
        split <;> exact askedMap
      have granted' : grantAsked near = granted := by
        refine if_congr (by rw [nearHold]) ?_ rfl
        show latchV .holdChanged { near with
          issue := { near.issue with hold := .held, limitTimer := some Config.holdLimit }
          line := near.line.enqueue near.line.classMap.hold .holdGranted } = _
        rw [nearMap]
        rfl
      rw [taken, commitSale_eq, asks, committed, reported, asked', near', granted']
      rfl

end Sys2Proof.Machine


/-! The loads of a call record (R7 to R12): the fields of a LOAD_CALL (R2, R3, R203), the checks of a record's times, and the
loads of the NEXT bank. -/

namespace Sys2Proof.Machine

-- One theorem at a time: the whole text is checked in one process.
set_option Elab.async false

/-! ## The fields of a load -/

theorem fields_eq_range (p : List Byte) (w off n : Nat) :
    fields p w off n = (List.range n).map fun j => field p (off + w * j) w := by
  induction n generalizing off with
  | zero => rfl
  | succ n ih =>
    rw [fields, ih, List.range_succ_eq_map, List.map_cons, List.map_map]
    refine congrArg₂ List.cons rfl (List.map_congr_left fun j _ => ?_)
    show field p (off + w + w * j) w = field p (off + w * (j + 1)) w
    rw [Nat.mul_succ, Nat.add_assoc, Nat.add_comm w]

theorem readPoints_eq_range (p : List Byte) (off n : Nat) :
    readPoints p off n = (List.range n).map fun j => (field p (off + 3 * j) 1, field p (off + 1 + 3 * j) 2) := by
  induction n generalizing off with
  | zero => rfl
  | succ n ih =>
    rw [readPoints, ih, List.range_succ_eq_map, List.map_cons, List.map_map]
    refine congrArg₂ List.cons rfl (List.map_congr_left fun j _ => ?_)
    show (field p (off + 3 + 3 * j) 1, field p (off + 3 + 1 + 3 * j) 2)
      = (field p (off + 3 * (j + 1)) 1, field p (off + 1 + 3 * (j + 1)) 2)
    have h1 : off + 3 + 3 * j = off + 3 * (j + 1) := by omega
    have h2 : off + 3 + 1 + 3 * j = off + 1 + 3 * (j + 1) := by omega
    rw [h1, h2]

/-- A time of day of a load (R7): absent where its field holds all ones. -/
theorem optField_time (p : List Byte) (off : Nat) : (optField p off 3).map (clamp 0 Config.lastSecond)
    = if field p off 3 = 16777215 then none else some (min (field p off 3) 86399) := by
  by_cases h : field p off 3 = 16777215
  · have absent : optField p off 3 = none := if_pos h
    rw [absent, if_pos h, Option.map_none]
  · have present : optField p off 3 = some (field p off 3) := if_neg h
    rw [present, if_neg h, Option.map_some, clamp_zero]
    rfl

/-- The minimum dwell of a load (R7): 30 where its field holds all ones. -/
theorem optField_dwell (p : List Byte) (off : Nat) : clamp 0 600 ((optField p off 2).getD 30)
    = if field p off 2 = 65535 then 30 else min (field p off 2) 600 := by
  by_cases h : field p off 2 = 65535
  · have absent : optField p off 2 = none := if_pos h
    rw [absent, if_pos h]
    rfl
  · have present : optField p off 2 = some (field p off 2) := if_neg h
    rw [present, if_neg h, Option.getD_some, clamp_zero]

theorem readLoadCall_fields {p : List Byte} (hl : DownKind.loadCall.hasLength p = true) :
    let time (off : Nat) : Option Nat := if field p off 3 = 16777215 then none else some (min (field p off 3) 86399)
    let k := field p 14 1
    let codes : List Nat := (List.range k).map fun j => max 1 (min (field p (15 + 2 * j) 2) 999)
    let points : List (Nat × Nat) := (List.range (field p (15 + 2 * k) 1)).map fun j =>
      (max 1 (min (field p (16 + 2 * k + 3 * j) 1) 255), min (field p (17 + 2 * k + 3 * j) 2) 900)
    readLoadCall p = some
      { bank := field p 0 1
        record :=
          { service := max 1 (min (field p 1 2) 9999)
            dest := max 1 (min (field p 3 2) 999)
            kind := if field p 5 1 = 0 then .stops else .request
            sa := time 6
            sd := time 9
            md := if field p 12 2 = 65535 then 30 else min (field p 12 2) 600
            served := codes.eraseDups.take 6
            points := ((points.map Prod.fst).eraseDups.take 4).map fun c => (c, lastAllowance points c) } } := by
  intro time k codes points
  have served : normaliseServed (fields p 2 15 k) = codes.eraseDups.take 6 := by
    rw [normaliseServed, firstOnly_eq_eraseDups, fields_eq_range, List.map_map]
    rfl
  have read : (readPoints p (16 + 2 * k) (field p (15 + 2 * k) 1)).map (fun e => (clamp 1 255 e.1, clamp 0 900 e.2)) = points := by
    rw [readPoints_eq_range, List.map_map]
    refine List.map_congr_left fun j _ => ?_
    refine Prod.ext rfl ((clamp_zero ..).trans ?_)
    show min (field p (16 + 2 * k + 1 + 3 * j) 2) 900 = min (field p (17 + 2 * k + 3 * j) 2) 900
    rw [Nat.add_right_comm 16 (2 * k) 1]
  have points' : normalisePoints (readPoints p (16 + 2 * k) (field p (15 + 2 * k) 1))
      = ((points.map Prod.fst).eraseDups.take 4).map fun c => (c, lastAllowance points c) := by
    rw [normalisePoints, read, putPoints_eq, List.map_take]
  refine (if_pos (of_decide_eq_true hl)).trans ?_
  simp only [Scheduled.normalise, optField_time, optField_dwell]
  rw [served, points']
  rfl

/-! ## A record as it enters a bank -/

/-- R7's third check, as a rule. -/
theorem timesOk_iff (r : Scheduled) :
    r.timesOk = true ↔ (r.sa ≠ none ∨ r.sd ≠ none) ∧ ∀ a d, r.sa = some a → r.sd = some d → a ≤ d := by
  unfold Scheduled.timesOk
  cases r.sa <;> cases r.sd <;> simp

theorem freshCall_service (r : Scheduled) : (freshCall r).service = r.service := congrArg Scheduled.service (freshCall_toScheduled r)

/-- A bank, once a new record has been put into it (R5, R8, R9). -/
theorem bankPut_freshCall {bank : List Call} (good : GoodBank bank) (r : Scheduled) :
    (bankPut (freshCall r) bank).Pairwise (fun c d => c.service < d.service) ∧
    ∀ c, c ∈ bankPut (freshCall r) bank ↔ c = freshCall r ∨ (c ∈ bank ∧ c.service ≠ r.service) := by
  refine ⟨bankPut_sorted good.sorted _, fun c => ?_⟩
  rw [mem_bankPut good.sorted, freshCall_service]

/-! ## The outcomes of a LOAD_CALL (R7) -/

section Outcomes

variable {addr : Byte} {p : List Byte} {s : State} {f : LoadCallFields}

theorem loadCallOutcome_noBank (h : 1 < f.bank) : loadCallOutcome s f = .badRecord := if_pos h

theorem loadCallOutcome_next (h : f.bank = 1) : loadCallOutcome s f =
    if f.record.timesOk = false then .badRecord
    else if (bankFind f.record.service s.calls.next).isSome = true ∨ s.calls.next.length < 96 then .accepted
    else .bankFull := by
  simp [loadCallOutcome, h, Config.bankSize]

theorem loadCallOutcome_active (h : f.bank = 0) : loadCallOutcome s f =
    if s.issue.hold ≠ .held then .notHeld
    else if f.record.timesOk = false then .badRecord
    else if (bankFind f.record.service s.calls.active).isSome = true ∨ s.calls.active.length < 96 then .accepted
    else .bankFull := by
  simp [loadCallOutcome, h, Config.bankSize]

/-- A LOAD_CALL that is not accepted is answered, and does nothing else. -/
theorem exec_loadCall_refused (ht : takesMessage s .loadCall addr p) (hf : readLoadCall p = some f) {o : LoadOutcome}
    (outcome : loadCallOutcome (frameDone s) f = o) (refused : o ≠ .accepted) :
    exec (.loadCall addr p) s = .next (offerReply .call o (some f.record.service) (frameDone s)) := by
  refine congrArg Host.Outcome.next ((onMessage_carried ht hf).trans ?_)
  rw [takeLoadCall, outcome]
  exact congrArg (offerReply .call o (some f.record.service)) (if_neg refused)

theorem exec_loadCall_accepted (ht : takesMessage s .loadCall addr p) (hf : readLoadCall p = some f)
    (outcome : loadCallOutcome (frameDone s) f = .accepted) :
    exec (.loadCall addr p) s
      = .next (offerReply .call .accepted (some f.record.service) (carryLoadCall f (frameDone s))) := by
  refine congrArg Host.Outcome.next ((onMessage_carried ht hf).trans ?_)
  rw [takeLoadCall, outcome]
  exact congrArg (offerReply .call .accepted (some f.record.service)) (if_pos rfl)

end Outcomes

/-- Settles O45: the outcome by the checks of R7, the bank by `bankPut_freshCall`, the fields by `readLoadCall_fields`. -/
theorem nextBankLoads : Obligations.NextBankLoads := by
  unfold Obligations.NextBankLoads
  refine ⟨fun addr s good => ⟨fun p f ht hf bank => ?toNext, fun p f ht hf noBank => ?noBank, fun ht => ?clear,
    fun n ht => ⟨fun count => ?complete, fun count => ?mismatch⟩, fun p hl => ?read⟩, fun r => ⟨?fresh, timesOk_iff r⟩⟩
  case noBank => exact exec_loadCall_refused ht hf (loadCallOutcome_noBank noBank) nofun
  case clear => exact congrArg Host.Outcome.next (onMessage_carried ht (rfl : readNothing [] = some ()))
  case complete =>
    refine congrArg Host.Outcome.next ((onMessage_carried ht (rfl : readLoadEnd [n] = some _)).trans (if_pos ?_))
    exact (Nat.zero_add _).trans count
  case mismatch =>
    refine congrArg Host.Outcome.next ((onMessage_carried ht (rfl : readLoadEnd [n] = some _)).trans (if_neg ?_))
    exact fun h => count ((Nat.zero_add _).symm.trans h)
  case read => exact readLoadCall_fields hl
  case fresh => rfl
  case toNext =>
    have known : (bankFind f.record.service s.calls.next).isSome = true ↔ ∃ c ∈ s.calls.next, c.service = f.record.service := by
      rw [bankFind, List.find?_isSome]
      simp
    have outcome := loadCallOutcome_next (s := frameDone s) bank
    refine ⟨fun times => exec_loadCall_refused ht hf (outcome.trans (if_pos times)) nofun, fun times new full => ?_,
      fun times room => ⟨bankPut (freshCall f.record) s.calls.next, ?_, bankPut_freshCall good f.record⟩⟩
    · refine exec_loadCall_refused ht hf (outcome.trans ?_) nofun
      rw [if_neg (by simp [times])]
      exact if_neg fun h => h.elim (fun h => new (known.1 h)) fun h => absurd full (Nat.not_le_of_lt h)
    · refine (exec_loadCall_accepted ht hf (outcome.trans ?_)).trans ?_
      · rw [if_neg (by simp [times])]
        exact if_pos (room.imp_left known.2)
      · rw [carryLoadCall, if_neg (by simp [bank])]
        rfl

end Sys2Proof.Machine


/-! The loads of the ACTIVE bank (R9, R10) and of the halt parameters (R144, R145). -/

namespace Sys2Proof.Machine

-- One theorem at a time: the whole text is checked in one process.
set_option Elab.async false

/-! ## The fields of a LOAD_PARAMS -/

/-- Each threshold is raised to its predecessors (R145): it is the greatest of the numbers up to it. -/
theorem ascending_eq (low : Nat) (l : List Nat) :
    ascending low l = (List.range l.length).map fun k => (l.take (k + 1)).foldl max low := by
  induction l generalizing low with
  | nil => rfl
  | cons t ts ih =>
    rw [ascending, ih, List.length_cons, List.range_succ_eq_map, List.map_cons, List.map_map]
    rfl

theorem readParams_fields {p : List Byte} (hl : p.length = 39) : readParams p = some
    { salesMargin := min (field p 0 2) 600
      requestMargin := max 120 (min (field p 2 2) 1800)
      dueWindow := max 60 (min (field p 4 2) 600)
      boardHorizon := max 30 (min (field p 6 1) 240)
      lateThreshold := max 1 (min (field p 7 1) 15)
      cancelledHold := min (field p 8 1) 60
      stalenessLimit := max 300 (min (field p 9 2) 3600)
      stopThreshold := max 5 (min (field p 11 1) 60)
      attribution := max 300 (min (field p 12 2) 3600)
      wakeWindow := max 5 (min (field p 14 1) 60)
      idleDelay := max 30 (min (field p 15 2) 900)
      thresholds := (List.range 7).map fun k =>
        ((List.range (k + 1)).map fun j => field p (17 + 2 * j) 2).foldl max 0
      levels := (List.range 8).map fun k => min (field p (31 + k) 1) 63 } := by
  have whole (j : Nat) : clamp 0 65535 (field p (17 + 2 * j) 2) = field p (17 + 2 * j) 2 := by
    rw [clamp_zero]
    exact Nat.min_eq_left (Nat.le_of_lt_succ (field_lt p _ 2))
  have thresholds : ascending 0 ((fields p 2 17 7).map (clamp 0 65535)) = (List.range 7).map fun k =>
      ((List.range (k + 1)).map fun j => field p (17 + 2 * j) 2).foldl max 0 := by
    rw [fields_eq_range, List.map_map, ascending_eq, List.length_map, List.length_range]
    refine List.map_congr_left fun k hk => ?_
    rw [← List.map_take, List.take_range, Nat.min_eq_left (List.mem_range.1 hk)]
    exact congrArg (List.foldl max 0) (List.map_congr_left fun j _ => whole j)
  have levels : (fields p 1 31 8).map (clamp 0 63) = (List.range 8).map fun k => min (field p (31 + k) 1) 63 := by
    rw [fields_eq_range, List.map_map]
    refine List.map_congr_left fun k _ => (clamp_zero ..).trans ?_
    show min (field p (31 + 1 * k) 1) 63 = _
    rw [Nat.one_mul]
  refine (if_pos hl).trans ?_
  simp only [clamp_zero 600, clamp_zero 60, thresholds, levels]
  rfl

/-! ## The place of a record in the ACTIVE bank (R9, R10) -/

section Active

variable {s : State} {r : Scheduled}

/-- A record that replaces another is recomputed and evaluated; a change of its kind comes after (R10). -/
def rescheduled (r : Scheduled) (s : State) : State :=
  evaluateCall r.service { s with
    calls := { s.calls with
      active := s.calls.active.map fun c => if c.service = r.service then recompute { c with toScheduled := r } else c } }

theorem replaceActive_eq (old : Call) (r : Scheduled) (s : State) :
    replaceActive old r s = changeKind old.kind r (rescheduled r s) := by
  have twice : (s.mapCall r.service fun c => { c with toScheduled := r }).mapCall r.service recompute
      = s.mapCall r.service fun c => recompute { c with toScheduled := r } := by
    simp only [State.mapCall, State.mapActive, List.map_map]
    congr 2
    refine List.map_congr_left fun c _ => ?_
    by_cases h : c.service = r.service <;> simp [h]
  rw [replaceActive, recomputeCall, twice]
  rfl

/-- An evaluation of a call changes no field but its state and its timer. -/
theorem evaluateCall_map {α : Type} (g : Call → α) (state : ∀ c x, g { c with state := x } = g c)
    (timer : ∀ c, g { c with ackTimer := none } = g c) (n : Nat) (s : State) :
    (evaluateCall n s).calls.active.map g = s.calls.active.map g := by
  have one (f : Call → Call) (t : State) (hf : ∀ c, g (f c) = g c) :
      (t.mapCall n f).calls.active.map g = t.calls.active.map g := by
    simp only [State.mapCall_active, List.map_map]
    refine List.map_congr_left fun c _ => ?_
    simp only [Function.comp_apply]
    split
    · exact hf c
    · rfl
  unfold evaluateCall
  split
  · dsimp only
    split
    · rw [leaveSaleable_calls]
      exact (one (fun c => { c with ackTimer := none }) _ timer).trans (one _ _ fun c => state c _)
    · exact one _ _ fun c => state c _
  · rfl

theorem changeKind_same {k : CallKind} (h : k = r.kind) : changeKind k r s = s := by
  unfold changeKind
  subst h
  cases r.kind <;> rfl

theorem changeKind_toStops {k : CallKind} (h : k = .request) (hr : r.kind = .stops) :
    changeKind k r s = removeStop r.service (s.mapCall r.service stopCleared) := by
  rw [changeKind, h, hr]
  rfl

theorem changeKind_toRequest {k : CallKind} (h : k = .stops) (hr : r.kind = .request) :
    changeKind k r s = if (s.call r.service).any fun c => 0 < c.sold && c.state.saleable then wantStop r.service .ticket s
      else s := by
  rw [changeKind, h, hr]
  rfl

theorem recompute_sold (c : Call) : (recompute c).sold = c.sold := by
  have before : (beforeArrival c).sold = c.sold := by
    unfold beforeArrival
    split <;> rfl
  unfold recompute
  split
  · rfl
  · rfl
  · exact before

/-- The scheduled fields of the bank in which a record has been replaced, and the tickets its calls have sold. -/
theorem rescheduled_fields (r : Scheduled) (s : State) :
    (rescheduled r s).calls.active.map (fun c => (c.toScheduled, c.sold))
      = s.calls.active.map fun c => (if c.service = r.service then r else c.toScheduled, c.sold) := by
  refine (evaluateCall_map (fun c => (c.toScheduled, c.sold)) (fun _ _ => rfl) (fun _ => rfl) _ _).trans ?_
  rw [List.map_map]
  refine List.map_congr_left fun c _ => ?_
  by_cases h : c.service = r.service
  · simp only [Function.comp_apply, if_pos h, (recompute_keepsStop .none _).sched, recompute_sold]
  · simp only [Function.comp_apply, if_neg h]

theorem rescheduled_good (good : GoodBank s.calls.active) (hr : r.InRange) : GoodBank (rescheduled r s).calls.active := by
  have service (c : Call) : (if c.service = r.service then r else c.toScheduled).service = c.service := by
    split
    next h => exact h.symm
    next => rfl
  have replaced : GoodBank (s.calls.active.map fun c =>
      ({ c with toScheduled := if c.service = r.service then r else c.toScheduled } : Call)) := by
    refine ⟨?_, (List.length_map _).trans_le good.size, fun c hc => ?_⟩
    · rw [List.pairwise_map]
      exact good.sorted.imp fun h => by rw [service, service]; exact h
    · obtain ⟨d, hd, rfl⟩ := List.mem_map.1 hc
      dsimp only
      split
      · exact hr
      · exact good.inRange d hd
  refine replaced.of_schedules ?_
  have fields := congrArg (List.map Prod.fst) (rescheduled_fields r s)
  rw [List.map_map, List.map_map] at fields
  rw [List.map_map]
  exact fields

/-- The call of the record that has been replaced has sold the tickets of the old one. -/
theorem rescheduled_sold (good : GoodBank s.calls.active) {old c : Call} (hold : old ∈ s.calls.active)
    (same : old.service = r.service) (hc : c ∈ (rescheduled r s).calls.active) (hn : c.service = r.service) : c.sold = old.sold := by
  have key : (c.toScheduled, c.sold) ∈
      s.calls.active.map fun c => (if c.service = r.service then r else c.toScheduled, c.sold) :=
    rescheduled_fields r s ▸ List.mem_map_of_mem hc
  obtain ⟨d, hd, e⟩ := List.mem_map.1 key
  obtain ⟨sched, sold⟩ := Prod.mk.inj e
  have number : d.service = r.service := by
    by_contra other
    rw [if_neg other] at sched
    exact other ((congrArg Scheduled.service sched).trans hn)
  rw [← sold, good.unique hd hold (number.trans same.symm)]

end Active

/-- Settles O46: the outcome by the checks of R7, the bank by `bankPut_freshCall` or by `replaceActive_eq`, the change of kind
by `changeKind_same`, `changeKind_toStops` and `changeKind_toRequest`, the parameters by `readParams_fields`. -/
theorem activeLoads : Obligations.ActiveLoads := by
  unfold Obligations.ActiveLoads
  intro addr p s good
  refine ⟨fun f ht hf bank => ?load, readParams_fields, fun q ht hq => congrArg Host.Outcome.next (onMessage_carried ht hq)⟩
  have outcome := loadCallOutcome_active (s := frameDone s) bank
  have asked (held : s.issue.hold = .held) (times : f.record.timesOk = true) : loadCallOutcome (frameDone s) f =
      if (bankFind f.record.service s.calls.active).isSome = true ∨ s.calls.active.length < 96 then .accepted else .bankFull := by
    refine outcome.trans ((if_neg (not_not_intro held)).trans (if_neg ?_))
    simp [times]
  refine ⟨fun free => ?notHeld, fun held times => ?badRecord, fun held times new => ⟨fun full => ?full, fun room => ?joins⟩,
    fun held times old hold same => ?replaces⟩
  case notHeld => exact exec_loadCall_refused ht hf (outcome.trans (if_pos free)) nofun
  case badRecord =>
    exact exec_loadCall_refused ht hf (outcome.trans ((if_neg (not_not_intro held)).trans (if_pos times))) nofun
  case full =>
    refine exec_loadCall_refused ht hf ((asked held times).trans (if_neg ?_)) nofun
    rw [bankFind_none.2 new]
    simpa using full
  case joins =>
    obtain ⟨sorted, mem⟩ := bankPut_freshCall good f.record
    refine ⟨bankPut (freshCall f.record) s.calls.active, ?_, sorted, fun c => (mem c).trans ?_⟩
    · refine (exec_loadCall_accepted ht hf ((asked held times).trans (if_pos (Or.inr room)))).trans ?_
      have absent : (frameDone s).call f.record.service = none := bankFind_none.2 new
      rw [carryLoadCall, if_pos bank, absent]
      rfl
    · exact or_congr_right ⟨And.left, fun hc => ⟨hc, new c hc⟩⟩
  case replaces =>
    have found : bankFind f.record.service s.calls.active = some old := same ▸ good.find hold
    have carried : exec (.loadCall addr p) s = .next (offerReply .call .accepted (some f.record.service)
        (rebuild (changeKind old.kind f.record (rescheduled f.record (frameDone s))))) := by
      refine (exec_loadCall_accepted ht hf ((asked held times).trans (if_pos (Or.inl (by rw [found]; rfl))))).trans ?_
      have present : (frameDone s).call f.record.service = some old := found
      rw [carryLoadCall, if_pos bank, present]
      exact congrArg (fun t => Host.Outcome.next (offerReply .call .accepted _ (rebuild t))) (replaceActive_eq ..)
    have sold {c : Call} (hc : c ∈ (rescheduled f.record (frameDone s)).calls.active) (hn : c.service = f.record.service) :
        c.sold = old.sold := rescheduled_sold (s := frameDone s) good hold same hc hn
    have changes {t : State} (h : changeKind old.kind f.record (rescheduled f.record (frameDone s)) = t) :
        exec (.loadCall addr p) s = .next (offerReply .call .accepted (some f.record.service) (rebuild t)) :=
      h ▸ carried
    refine ⟨fun kind => changes (changeKind_same kind), fun was is => changes (changeKind_toStops was is),
      fun was is unsold => ?unsold, fun was is sale open_ => ?wants, fun was is sale gone => ?gone⟩
    case unsold =>
      refine changes ((changeKind_toRequest was is).trans (if_neg (Bool.eq_false_iff.1 (call_any_false fun c hc hn => ?_))))
      simp [sold hc hn, unsold]
    case wants =>
      obtain ⟨c, hc, hn, saleable⟩ := open_
      refine changes ((changeKind_toRequest was is).trans (if_pos (call_any_true ?_ hc hn ?_)))
      · exact rescheduled_good (s := frameDone s) good (readLoadCall_inRange hf times)
      · have tickets : 0 < c.sold := sold hc hn ▸ sale
        simp [tickets, saleable]
    case gone =>
      refine changes ((changeKind_toRequest was is).trans (if_neg (Bool.eq_false_iff.1 (call_any_false fun c hc hn => ?_))))
      simp [gone c hc hn]

end Sys2Proof.Machine


/-! The upward line (R108, R110 to R117, R129, R149): the frame a symbol boundary starts, the octets of each frame, the symbols
of a period, LINE_UP, and the downward receiver. -/

namespace Sys2Proof.Machine

-- One theorem at a time: the whole text is checked in one process.
set_option Elab.async false

/-! ## The frame that starts (R114, R115) -/

section Start

variable {l : Line} {s : State}

/-- The source of the next frame, by link state, queues, cursor and turn marker. -/
theorem nextSource_eq_some {src : TxSource}
    (h : l.link = .synced ∧ src = .join ∧ l.joinPending = true ∧ l.urgentThreshold ≤ l.idleCount ∨
      l.link = .admitted ∧ (∃ i rest, l.urgent = i :: rest ∧ src = .urgentItem i) ∧ l.urgentThreshold ≤ l.idleCount ∨
      l.link = .admitted ∧ l.urgent = [] ∧ l.routineThreshold ≤ l.idleCount ∧
        ((∃ i rest, l.routine = i :: rest ∧ src = .routineItem i ∧ (l.cursor = none ∨ l.turn = .queue)) ∨
          ∃ n, l.cursor = some n ∧ src = .sale n ∧ (l.routine = [] ∨ l.turn = .journal))) : nextSource l = some src := by
  rcases h with ⟨link, rfl, pending, idle⟩ | ⟨link, ⟨i, rest, urgent, rfl⟩, idle⟩ | ⟨link, urgent, idle, routine | sale⟩
  · simp [nextSource, link, pending, idle]
  · simp [nextSource, link, urgent, idle]
  · obtain ⟨i, rest, queued, rfl, turn⟩ := routine
    cases cursor : l.cursor with
    | none => simp [nextSource, link, urgent, idle, queued, cursor]
    | some n =>
      have queue : l.turn = .queue := turn.resolve_left (by simp [cursor])
      simp [nextSource, link, urgent, idle, queued, cursor, queue]
  · obtain ⟨n, cursor, rfl, turn⟩ := sale
    cases queued : l.routine with
    | nil => simp [nextSource, link, urgent, idle, queued, cursor]
    | cons i rest =>
      have journal : l.turn = .journal := turn.resolve_left (by simp [queued])
      simp [nextSource, link, urgent, idle, queued, cursor, journal]

theorem nextSource_eq_none (h : l.link = .dark ∨ l.link = .hunt ∨ l.link = .lost ∨
      (l.link = .synced ∧ (l.joinPending = false ∨ l.idleCount < l.urgentThreshold)) ∨
      (l.link = .admitted ∧ l.urgent ≠ [] ∧ l.idleCount < l.urgentThreshold) ∨
      (l.link = .admitted ∧ l.urgent = [] ∧
        (l.idleCount < l.routineThreshold ∨ (l.routine = [] ∧ l.cursor = none)))) : nextSource l = none := by
  rcases h with link | link | link | ⟨link, pending | busy⟩ | ⟨link, urgent, busy⟩ | ⟨link, urgent, busy | ⟨queued, cursor⟩⟩
  · simp [nextSource, link]
  · simp [nextSource, link]
  · simp [nextSource, link]
  · simp [nextSource, link, pending]
  · simp [nextSource, link, busy]
  · obtain ⟨i, rest, urgent⟩ := List.exists_cons_of_ne_nil urgent
    simp [nextSource, link, urgent, busy]
  · simp [nextSource, link, urgent, busy]
  · simp [nextSource, link, urgent, queued, cursor]

theorem exec_upwardFrameStart {src : TxSource} (tx : s.line.tx = none) (h : nextSource s.line = some src) :
    exec .upwardFrameStart s = .next { s with line := { s.line with tx := some (startFrame src s), up := .space } } := by
  show execUpwardFrameStart s = _
  unfold execUpwardFrameStart
  rw [tx, h]
  rfl

theorem exec_upwardFrameStart_none (h : s.line.tx ≠ none ∨ nextSource s.line = none) :
    exec .upwardFrameStart s = .next s := by
  show execUpwardFrameStart s = _
  unfold execUpwardFrameStart
  split
  next src tx source => exact h.elim (absurd tx) fun none => by rw [none] at source; cases source
  · rfl

end Start

/-! ## The octets of a frame (R110, R122, R129, R139, R143, R149) -/

theorem joinBytes_eq (s : State) : joinBytes s = s.clock.startKind.code :: (match s.issue.journal with
    | [] => [0x00#8]
    | t :: _ => 0x01#8 :: beBytes 4 t.sequence) ++ beBytes 2 (s.issue.blocks.map Block.count).sum := by
  unfold joinBytes
  cases s.issue.journal <;> rfl

/-- The flags of a STATUS: bit 0 the table reused, bit 1 the fault of the screen (R149). -/
theorem statusFlags_eq (reused fault : Bool) : BitVec.ofNat 8 (reused.toNat + 2 * fault.toNat)
    = (if reused then 0x01#8 else 0x00#8) ||| (if fault then 0x02#8 else 0x00#8) := by
  cases reused <;> cases fault <;> rfl

theorem statusBytes_eq (s : State) : statusBytes s = [s.clock.timeState.code, BitVec.ofNat 8 s.clock.disputes]
    ++ beBytes 2 s.issue.journal.length ++ beBytes 2 (s.issue.blocks.map Block.count).sum
    ++ [s.issue.hold.code, s.screen.supply.code,
      (if s.line.tableReused then 0x01#8 else 0x00#8) ||| (if s.screen.supply = .fault then 0x02#8 else 0x00#8)]
    ++ beBytes 2 s.line.badFrames ++ beBytes 2 s.line.contentions ++ beBytes 2 s.line.faults ++ beBytes 2 s.line.discards := by
  rw [statusBytes, statusFlags_eq]
  simp only [decide_eq_true_eq]
  rfl

theorem item_payload_eq (s : State) (i : Item) : frameBody (addressByte s) i.kindByte (i.payload s) =
    match i with
    | .status => frameBody (addressByte s) 0x42#8 (statusBytes s)
    | .stopRequest n o w => frameBody (addressByte s) 0x44#8 (beBytes 2 n ++ [match o with
        | some x => x.code
        | none => 0xFF#8] ++ optBytes 3 w)
    | .observation k n t => frameBody (addressByte s) 0x45#8 (k.code :: optBytes 2 n ++ optBytes 3 t)
    | .serialAsk n => frameBody (addressByte s) 0x46#8 (beBytes 2 n)
    | .holdGranted => frameBody (addressByte s) 0x47#8 []
    | .holdEnded r => frameBody (addressByte s) 0x48#8 [r.code]
    | .loadReply k o r => frameBody (addressByte s) 0x49#8 (k.code :: o.code :: match r with
        | none => [0x00#8]
        | some x => 0x01#8 :: beBytes 3 x) := by
  cases i with
  | stopRequest n o w => cases o <;> rfl
  | loadReply k o r => cases r <;> rfl
  | status | observation | serialAsk | holdGranted | holdEnded => rfl

/-! ## The symbols of a period (R108, R112, R116, R117) -/

theorem echoFrame_eq (e : Symbol) (f : TxFrame) : echoFrame e f =
    if f.echo ≠ .equal then f
    else match f.rest with
      | [] => f
      | x :: rest =>
        if x = e then { f with rest := rest }
        else { f with echo := if x = .mark then .contention else .fault } := by
  obtain ⟨source, queued, octets, rest, echo, reused, rearmed⟩ := f
  cases echo with
  | equal =>
    cases rest with
    | nil => rfl
    | cons x rest =>
      simp only [echoFrame, ne_eq, not_true_eq_false, if_false]
      split
      · rfl
      · split <;> rfl
  | contention | fault => rfl

/-- The next symbol of a frame whose echo was equal; mark where there is none (R108, R116, R117). -/
theorem symbolToDrive_map_echoFrame (e : Symbol) (tx : Option TxFrame) : symbolToDrive (tx.map (echoFrame e)) =
    match tx with
    | none => .mark
    | some f => if f.echo = .equal ∧ f.rest.head? = some e then f.rest.tail.headD .mark else .mark := by
  cases tx with
  | none => rfl
  | some f => exact symbolToDrive_echoFrame e f

theorem idleAfter_eq (n : Nat) (e : Symbol) : idleAfter n e = if e = .space then 0 else if n < 255 then n + 1 else 255 := by
  cases e
  · exact satSucc_eq 255 n
  · rfl

theorem hearsStart_iff (s : State) :
    hearsStart s = true ↔ s.line.link ≠ .dark ∧ s.line.rx.phase.inFrame = false ∧ s.line.rx.marks = 6 := by
  simp [hearsStart, Receiver.ready]

/-! ## LINE_UP (R108) -/

/-- LINE_UP changes at the boundaries of a frame's start and of a period, and at a full reset (`exec_touches`). -/
theorem exec_lineUp {c : Instr} {s t : State} (h : exec c s = .next t) (still : (touched c).up = false) : lineUp t = lineUp s :=
  ((exec_touches c s).of_next h).up.resolve_left (by simp [still])

theorem fullReset_lineUp {pins : ResetPins} {s t : State} (h : exec (.fullReset pins) s = .next t) : lineUp t = .mark := by
  have answers : Answers (fun t => t.line.up = .mark) (execFullReset pins s) := by
    refine answers_ite (fun _ => answers_next.2 ?_) fun _ => answers_next.2 ?_
    · exact (endReset_same (k := {}) _ rfl).up.resolve_left nofun
    · obtain ⟨same, link⟩ := warmActions_same (k := { clock := true, platform := true }) rfl rfl (warmStart pins s)
      exact ((endReset_same (k := {}) _ link).up.resolve_left nofun).trans (same.up.resolve_left nofun)
  exact answers.of_next h

/-! ## The downward receiver (R111) -/

/-- The symbols of an octet spell it. -/
theorem bitsNat_octetBits (b : Byte) : bitsNat (octetBits b) = b.toNat := by
  have bit (i : Nat) : (b.getLsbD i).toNat = b.toNat / 2 ^ i % 2 := by
    rw [BitVec.getLsbD, Nat.testBit_eq_decide_div_mod_eq]
    rcases Nat.mod_two_eq_zero_or_one (b.toNat / 2 ^ i) with h | h <;> rw [h] <;> rfl
  simp only [bitsNat, octetBits, List.foldl_cons, List.foldl_nil, bit]
  have := b.isLt
  omega

section Receiver

variable {r : Receiver} {bits : List Bool}

/-- Outside a frame the receiver counts marks up to 6, and a space after 6 of them begins a frame. -/
theorem rxSymbol_outside (h : r.phase.inFrame = false) :
    rxSymbol r .mark = { r with marks := if r.marks < 6 then r.marks + 1 else 6 } ∧
    rxSymbol r .space = if r.marks = 6 then { marks := 0, phase := .receiving [] } else { r with marks := 0 } := by
  have count : min (r.marks + 1) 6 = if r.marks < 6 then r.marks + 1 else 6 := by split <;> omega
  obtain ⟨marks, phase⟩ := r
  cases phase with
  | starting | receiving => cases h
  | waiting | valid | bad => exact ⟨congrArg (fun n => ({ marks := n, phase := _ } : Receiver)) count, rfl⟩

theorem rxSymbol_starting (h : r.phase = .starting) :
    rxSymbol r .space = { marks := 0, phase := .receiving [] } ∧ rxSymbol r .mark = r := by
  obtain ⟨marks, phase⟩ := r
  subst h
  exact ⟨rfl, rfl⟩

/-- After 5 marks a mark aborts the frame, and a space is dropped. -/
theorem rxSymbol_stuffed (h : r.phase = .receiving bits) (marks : r.marks = 5) :
    rxSymbol r .mark = { marks := 0, phase := .bad .aborted } ∧ rxSymbol r .space = { r with marks := 0 } := by
  obtain ⟨m, phase⟩ := r
  subst h marks
  exact ⟨rfl, rfl⟩

/-- Any other symbol of a frame joins its bits, and they are judged. -/
theorem rxSymbol_receiving (h : r.phase = .receiving bits) (marks : r.marks ≠ 5) (m : Symbol) :
    rxSymbol r m = rxAfter (if m = .mark then r.marks + 1 else 0) (rxJudge (bits ++ [decide (m = .mark)])) := by
  obtain ⟨k, phase⟩ := r
  subst h
  cases m with
  | mark => exact if_neg marks
  | space => exact if_neg marks

theorem rxJudge_short (h : bits.length < 24) : rxJudge bits = .receiving bits := if_pos h

/-- A length octet above 40 ends the frame. -/
theorem rxJudge_header {address kind length : Byte} (h : bits = bitsOf [address, kind, length]) (long : 40 < length.toNat) :
    rxJudge bits = .bad .length := by
  subst h
  have spelt : bitsNat (((bitsOf [address, kind, length]).drop 16).take 8) = length.toNat := bitsNat_octetBits length
  unfold rxJudge
  dsimp only
  rw [spelt]
  have header : ¬ (bitsOf [address, kind, length]).length < 24 := Nat.lt_irrefl 24
  exact (if_neg header).trans (if_pos long)

end Receiver

/-- Settles O49, part by part: `nextSource_eq_some` and `nextSource_eq_none`, the octets of each frame, `echoFrame_eq` and
`symbolToDrive_map_echoFrame`, `exec_lineUp`, and the receiver's rules. -/
theorem framesStartAndRun : Obligations.FramesStartAndRun := by
  unfold Obligations.FramesStartAndRun
  refine ⟨fun s src tx h => exec_upwardFrameStart tx (nextSource_eq_some h), fun s => ?octets, fun n => ?numbers, ?codes,
    fun s h => exec_upwardFrameStart_none (h.imp_right nextSource_eq_none), fun m e s idle => ?period,
    fun c s t h reset start period => ?lineUp, fun pins s t => fullReset_lineUp, fun r => ?receiver, fun s => ?returns⟩
  case octets =>
    refine ⟨congrArg (frameBody (addressByte s) 0x41#8) (joinBytes_eq s), fun n t found => ?_, fun i src source => ?_⟩
    · show frameBody (addressByte s) 0x43#8 (((s.issue.journal.find? fun t => t.sequence = n).map ticketBytes).getD []) = _
      rw [found]
      rfl
    · have body : sourceBody s src = frameBody (addressByte s) i.kindByte (i.payload s) := by
        rcases source with rfl | rfl <;> rfl
      rw [body, item_payload_eq]
      cases i with
      | status => exact congrArg (frameBody (addressByte s) 0x42#8) (statusBytes_eq s)
      | stopRequest | observation | serialAsk | holdGranted | holdEnded | loadReply => rfl
  case numbers => simp [beBytes, optBytes]
  case codes => decide
  case period =>
    have starts : ((decide (m = .space) && hearsStart s) = true) ↔
        m = .space ∧ s.line.link ≠ .dark ∧ s.line.rx.phase.inFrame = false ∧ s.line.rx.marks = 6 := by
      rw [Bool.and_eq_true, decide_eq_true_eq, hearsStart_iff]
    refine congrArg Host.Outcome.next (State.ext_blocks rfl rfl (if_congr starts rfl rfl) rfl rfl ?_ rfl rfl rfl rfl rfl rfl)
    dsimp only
    congr 1
    · exact idleAfter_eq s.line.idleCount e
    · exact congrArg (Option.map · s.line.tx) (funext (echoFrame_eq e))
    · exact symbolToDrive_map_echoFrame e s.line.tx
  case lineUp =>
    refine exec_lineUp h ?_
    cases c with
    | fullReset pins => exact absurd rfl (reset pins)
    | upwardFrameStart => exact absurd rfl start
    | symbolPeriodEnd m e => exact absurd rfl (period m e)
    | _ => rfl
  case receiver =>
    refine ⟨rxSymbol_outside, rxSymbol_starting, fun bits h => ⟨rxSymbol_stuffed h, fun marks m => ⟨fun short => ?_,
      fun address kind length header long => ?_⟩⟩⟩
    · rw [rxSymbol_receiving h marks, rxJudge_short (by simp; omega)]
      rfl
    · rw [rxSymbol_receiving h marks, rxJudge_header header long]
      rfl
  case returns =>
    show execThresholdReturn s = _
    simp only [execThresholdReturn, Bool.and_eq_true, decide_eq_true_eq]
    rfl

end Sys2Proof.Machine


/-! The receiver reads a stuffed frame back (R110, R111): the octets that symbols spell, what the receiver makes of each part of
a frame, and stuffing undone symbol by symbol. -/

namespace Sys2Proof.Machine

-- One theorem at a time: the whole text is checked in one process.
set_option Elab.async false

/-! ## The octets that symbols spell -/

theorem length_octetBits (b : Byte) : (octetBits b).length = 8 := rfl

theorem bitsOf_cons (b : Byte) (bs : List Byte) : bitsOf (b :: bs) = octetBits b ++ bitsOf bs := List.flatMap_cons

theorem bitsOf_append (as bs : List Byte) : bitsOf (as ++ bs) = bitsOf as ++ bitsOf bs := List.flatMap_append

theorem length_bitsOf (bs : List Byte) : (bitsOf bs).length = 8 * bs.length := by
  induction bs with
  | nil => rfl
  | cons b bs ih =>
    rw [bitsOf_cons, List.length_append, ih, length_octetBits, List.length_cons]
    omega

/-- The symbols of some octets spell those octets. -/
theorem octetsOf_bitsOf (bs : List Byte) (rest : List Bool) : octetsOf bs.length (bitsOf bs ++ rest) = bs := by
  induction bs with
  | nil => rfl
  | cons b bs ih =>
    rw [bitsOf_cons, List.append_assoc, List.length_cons, octetsOf, List.take_left' (length_octetBits b),
      List.drop_left' (length_octetBits b), ih, bitsNat_octetBits, BitVec.ofNat_toNat, BitVec.setWidth_eq]

/-! ## What the receiver makes of a frame -/

section Frame

variable {addr kind : Byte} {payload check : List Byte}

/-- The length octet of a frame, once its third octet is in. -/
theorem frame_length_octet (len : payload.length ≤ 40) {n : Nat} (h : 24 ≤ n) :
    bitsNat (((((bitsOf (frameBody addr kind payload ++ check)).take n).drop 16).take 8)) = payload.length := by
  have header : bitsOf (frameBody addr kind payload ++ check)
      = bitsOf [addr, kind] ++ (octetBits (BitVec.ofNat 8 payload.length) ++ bitsOf (payload ++ check)) := rfl
  rw [List.drop_take, List.take_take, Nat.min_eq_left (by omega), header, List.drop_left' (i := 16) (length_bitsOf [addr, kind]),
    List.take_left' (length_octetBits _), bitsNat_octetBits, BitVec.toNat_ofNat, Nat.mod_eq_of_lt (by omega)]

theorem length_frame (two : check.length = 2) :
    (bitsOf (frameBody addr kind payload ++ check)).length = 40 + 8 * payload.length := by
  rw [length_bitsOf, List.length_append, two, frameBody]
  simp only [List.length_cons]
  omega

/-- Before its last symbol a frame goes on. -/
theorem rxJudge_part (len : payload.length ≤ 40) {n : Nat} (h : n < 40 + 8 * payload.length) (two : check.length = 2) :
    rxJudge ((bitsOf (frameBody addr kind payload ++ check)).take n)
      = .receiving ((bitsOf (frameBody addr kind payload ++ check)).take n) := by
  have length : ((bitsOf (frameBody addr kind payload ++ check)).take n).length = n := by
    rw [List.length_take, length_frame two]
    omega
  unfold rxJudge
  dsimp only
  rw [length]
  by_cases short : n < 24
  · exact if_pos short
  · rw [frame_length_octet len (Nat.le_of_not_lt short)]
    exact (if_neg short).trans ((if_neg (Nat.not_lt.2 len)).trans (if_pos h))

/-- At its last symbol a frame is valid if its check is right. -/
theorem rxJudge_frame (len : payload.length ≤ 40) (two : check.length = 2) :
    rxJudge (bitsOf (frameBody addr kind payload ++ check)) =
      if check = crcBytes (frameBody addr kind payload) then .valid (frameBody addr kind payload) else .bad .check := by
  have length := length_frame (addr := addr) (kind := kind) (payload := payload) two
  have octet := frame_length_octet (addr := addr) (kind := kind) (check := check) len
    (n := (bitsOf (frameBody addr kind payload ++ check)).length) (by omega)
  rw [List.take_length] at octet
  have body : octetsOf (3 + payload.length) (bitsOf (frameBody addr kind payload ++ check)) = frameBody addr kind payload := by
    have count : 3 + payload.length = (frameBody addr kind payload).length := by
      simp only [frameBody, List.length_cons]
      omega
    rw [count, bitsOf_append]
    exact octetsOf_bitsOf _ _
  have last : octetsOf 2 ((bitsOf (frameBody addr kind payload ++ check)).drop (24 + 8 * payload.length)) = check := by
    have count : (bitsOf (frameBody addr kind payload)).length = 24 + 8 * payload.length := by
      rw [length_bitsOf, frameBody]
      simp only [List.length_cons]
      omega
    rw [bitsOf_append, List.drop_left' count, ← two, ← List.append_nil (bitsOf check)]
    exact octetsOf_bitsOf _ _
  have long : ¬ 40 + 8 * payload.length < 24 := by omega
  unfold rxJudge
  dsimp only
  rw [octet, body, last, length]
  exact (if_neg long).trans ((if_neg (Nat.not_lt.2 len)).trans (if_neg (Nat.lt_irrefl _)))

end Frame

/-! ## Stuffing undone (R110, R111) -/

theorem rxSymbol_ended {phase : RxPhase} (ended : phase.inFrame = false) :
    rxSymbol { marks := 0, phase := phase } .space = { marks := 0, phase := phase } :=
  (rxSymbol_outside ended).2

/-- The receiver takes the next bit of a frame, its run of marks being below 5. -/
theorem rxSymbol_bit {run : Nat} (h : run ≤ 4) (done : List Bool) (b : Bool) :
    rxSymbol { marks := run, phase := .receiving done } (toSymbol b)
      = rxAfter (if b then run + 1 else 0) (rxJudge (done ++ [b])) := by
  have below : run ≠ 5 := by omega
  cases b with
  | true => exact rxSymbol_receiving rfl below .mark
  | false => exact rxSymbol_receiving rfl below .space

/-- The receiver that is fed the stuffed rest of a frame holds what the frame's symbols are judged to be, if the frame goes on
before each of them and ends at the last. -/
theorem foldl_rxSymbol_stuff {all : List Bool} (goes : ∀ n, n < all.length → rxJudge (all.take n) = .receiving (all.take n))
    (ends : (rxJudge all).inFrame = false) {run : Nat} (h : run ≤ 4) {done rest : List Bool} (split : all = done ++ rest)
    (more : rest ≠ []) :
    ((stuff run rest).map toSymbol).foldl rxSymbol { marks := run, phase := .receiving done }
      = { marks := 0, phase := rxJudge all } := by
  induction rest generalizing run done with
  | nil => exact absurd rfl more
  | cons b rest ih =>
    have split' : all = (done ++ [b]) ++ rest := by rw [split, List.append_assoc]; rfl
    have taken := rxSymbol_bit h done b
    cases rest with
    | nil =>
      rw [List.append_nil] at split'
      have last (n : Nat) : rxAfter n (rxJudge (done ++ [b])) = { marks := 0, phase := rxJudge all } := by
        rw [← split', rxAfter, if_neg (by rw [ends]; decide)]
      rw [last] at taken
      cases b with
      | false => exact taken
      | true =>
        by_cases four : run = 4
        · have symbols : stuff run [true] = [true, false] := if_pos four
          rw [symbols]
          show rxSymbol (rxSymbol _ (toSymbol true)) .space = _
          rw [taken]
          exact rxSymbol_ended ends
        · have symbols : stuff run [true] = [true] := if_neg four
          rw [symbols]
          exact taken
    | cons c rest =>
      have next (n : Nat) : rxAfter n (rxJudge (done ++ [b])) = { marks := n, phase := .receiving (done ++ [b]) } := by
        have part := goes (done ++ [b]).length (by rw [split']; simp)
        have start : all.take (done ++ [b]).length = done ++ [b] := by rw [split', List.take_left]
        rw [start] at part
        rw [part]
        rfl
      rw [next] at taken
      have go {n : Nat} (hn : n ≤ 4) := ih hn split' (List.cons_ne_nil c rest)
      cases b with
      | false =>
        show ((stuff 0 (c :: rest)).map toSymbol).foldl rxSymbol (rxSymbol _ (toSymbol false)) = _
        rw [taken]
        exact go (Nat.zero_le 4)
      | true =>
        by_cases four : run = 4
        · have symbols : stuff run (true :: c :: rest) = true :: false :: stuff 0 (c :: rest) := if_pos four
          have dropped := (rxSymbol_stuffed (r := { marks := run + 1, phase := .receiving (done ++ [true]) }) rfl
            (congrArg (· + 1) four)).2
          rw [symbols]
          show ((stuff 0 (c :: rest)).map toSymbol).foldl rxSymbol (rxSymbol (rxSymbol _ (toSymbol true)) .space) = _
          rw [taken]
          refine (congrArg (List.foldl rxSymbol · ((stuff 0 (c :: rest)).map toSymbol)) dropped).trans ?_
          exact go (Nat.zero_le 4)
        · have symbols : stuff run (true :: c :: rest) = true :: stuff (run + 1) (c :: rest) := if_neg four
          rw [symbols]
          show ((stuff (run + 1) (c :: rest)).map toSymbol).foldl rxSymbol (rxSymbol _ (toSymbol true)) = _
          rw [taken]
          exact go (show run + 1 ≤ 4 by omega)

/-- Settles O3: the start space begins the frame, the stuffing is undone symbol by symbol (`foldl_rxSymbol_stuff`), and the
whole is judged by its check (`rxJudge_part`, `rxJudge_frame`). -/
theorem receiverReadsFrame : Obligations.ReceiverReadsFrame := by
  unfold Obligations.ReceiverReadsFrame
  intro addr kind payload check r len two marks outside
  have length := length_frame (addr := addr) (kind := kind) (payload := payload) two
  have ends : (rxJudge (bitsOf (frameBody addr kind payload ++ check))).inFrame = false := by
    rw [rxJudge_frame len two]
    split <;> rfl
  have read := foldl_rxSymbol_stuff (fun n hn => rxJudge_part len (length ▸ hn) two) ends (Nat.zero_le 4) (done := [])
    (List.nil_append _).symm (List.ne_nil_of_length_pos (by omega))
  have begins : rxSymbol r .space = { marks := 0, phase := .receiving [] } := (rxSymbol_outside outside).2.trans (if_pos marks)
  show ((stuff 0 (bitsOf (frameBody addr kind payload ++ check))).map toSymbol).foldl rxSymbol (rxSymbol r .space) = _
  rw [begins, read, rxJudge_frame len two]

end Sys2Proof.Machine


/-! The board and the ports (O60) through every step: a rebuild makes the board sound, whatever it was, and every command that
does not rebuild it leaves alone what it shows. -/

namespace Sys2Proof.Machine

-- One theorem at a time: the whole text is checked in one process.
set_option Elab.async false

section Board

variable {s t u : State}

/-! ## What a board shows -/

/-- A step that leaves alone the board and what it is built of: its banner, whether the time is set, and the state of each
call. -/
structure Shown (s t : State) : Prop where
  board : t.board = s.board
  condition : t.line.condition = s.line.condition
  textCode : t.line.textCode = s.line.textCode
  time : t.clock.timeState = s.clock.timeState
  calls : ∀ c ∈ s.calls.active, ∃ d ∈ t.calls.active, d.service = c.service ∧ d.state = c.state

theorem Shown.refl (s : State) : Shown s s := ⟨rfl, rfl, rfl, rfl, fun c hc => ⟨c, hc, rfl, rfl⟩⟩

theorem Shown.trans (h : Shown s t) (h' : Shown t u) : Shown s u := by
  refine ⟨h'.board.trans h.board, h'.condition.trans h.condition, h'.textCode.trans h.textCode, h'.time.trans h.time,
    fun c hc => ?_⟩
  obtain ⟨d, hd, service, state⟩ := h.calls c hc
  obtain ⟨e, he, service', state'⟩ := h'.calls d hd
  exact ⟨e, he, service'.trans service, state'.trans state⟩

theorem Shown.of_same (board : t.board = s.board := by rfl) (condition : t.line.condition = s.line.condition := by rfl)
    (textCode : t.line.textCode = s.line.textCode := by rfl) (time : t.clock.timeState = s.clock.timeState := by rfl)
    (calls : t.calls.active = s.calls.active := by rfl) : Shown s t :=
  ⟨board, condition, textCode, time, fun c hc => ⟨c, calls ▸ hc, rfl, rfl⟩⟩

/-- A quiet operation that changes neither the board nor the calls. -/
theorem Quiet.shown (q : Quiet s t) (board : t.board = s.board := by simp) (calls : t.calls = s.calls := by simp) : Shown s t :=
  .of_same board (by rw [q.line.same]) (by rw [q.line.same]) (by rw [q.clock]) (by rw [calls])

/-- An operation on the calls that changes the state of none. -/
theorem Shown.of_mapActive (f : Call → Call) (kept : ∀ c, (f c).service = c.service ∧ (f c).state = c.state) :
    Shown s (s.mapActive f) :=
  ⟨rfl, rfl, rfl, rfl, fun c hc => ⟨f c, List.mem_map_of_mem hc, kept c⟩⟩

theorem Shown.of_mapCall (n : Nat) (f : Call → Call) (kept : ∀ c, (f c).service = c.service ∧ (f c).state = c.state) :
    Shown s (s.mapCall n f) :=
  .of_mapActive _ fun c => by
    split
    · exact kept c
    · exact ⟨rfl, rfl⟩

theorem BoardInv.kept (h : BoardInv s) (same : Shown s t) : BoardInv t := by
  constructor
  · rw [same.board, same.condition]; exact h.condition
  · rw [same.board, same.textCode]; exact h.textCode
  · rw [same.board, same.time]; exact h.notSet
  · rw [same.board]; exact h.rows
  · rw [same.board, same.time]; exact h.unset
  · intro r hr
    obtain ⟨c, hc, service, departed, lapsed⟩ := h.shown r (same.board ▸ hr)
    obtain ⟨d, hd, service', state⟩ := same.calls c hc
    exact ⟨d, hd, service'.trans service, state ▸ departed, state ▸ lapsed⟩

/-! ## A build -/

/-- A candidate for the board is neither DEPARTED nor LAPSED (R42). -/
theorem candidate_state {p : Params} {now : Nat} {c : Call} (h : candidate p now c = true) :
    c.state ≠ .departed ∧ c.state ≠ .lapsed := by
  rw [candidate, Bool.and_eq_true, boardState] at h
  cases state : c.state with
  | departed | lapsed => simp [state, CallState.saleable] at h
  | _ => exact ⟨nofun, nofun⟩

/-- A board that is the build of its state is sound (R41, R44, R48). -/
theorem BoardInv.of_build (h : s.board.board = buildBoard s) : BoardInv s := by
  have rows : s.board.board.rows = boardRowsOf s.line.params s.clock.timeState s.now s.calls.active := by rw [h]; rfl
  constructor
  · rw [h]; rfl
  · rw [h]; rfl
  · rw [h]; rfl
  · rw [rows, boardRowsOf]
    split
    · exact Nat.zero_le _
    · rw [List.length_map]
      exact List.length_take_le _ _
  · intro unset
    rw [rows, boardRowsOf, if_pos unset]
  · intro r hr
    rw [rows, boardRowsOf] at hr
    split at hr
    · cases hr
    · obtain ⟨c, hc, rfl⟩ := List.mem_map.1 hr
      obtain ⟨mem, shows⟩ := List.mem_filter.1 ((mem_sortBy _).1 (List.mem_of_mem_take hc))
      exact ⟨c, mem, rfl, candidate_state shows⟩

theorem evalDemandAt_shown (selLow : Bool) (s : State) : Shown s (evalDemandAt selLow s) := (evalDemandAt_quiet selLow s).shown

/-- A rebuild makes the board sound, whatever it was (R49). -/
theorem rebuild_board (s : State) : BoardInv (rebuild s) := by
  refine BoardInv.kept (BoardInv.of_build ?_) (evalDemand_quiet (newBoard s)).shown
  unfold newBoard
  split
  next same => exact same.symm
  next => rfl

/-! ## The operations that do not rebuild -/

theorem setPort_shown (s : State) (port : Port) (q : PortState) : Shown s (setPort s port q) := by
  cases port <;> exact .of_same

theorem answer_shown (port : Port) (p : List Byte) (s : State) : Shown s (answer port p s) := setPort_shown s port _

theorem refuse_shown (port : Port) (st : Status) (s : State) : Shown s (refuse port st s) := setPort_shown s port _

theorem setLink_shown (k : LinkState) (s : State) : Shown s (setLink k s) := .of_same

theorem offerReply_shown (k : LoadKind) (o : LoadOutcome) (r : Option Nat) (s : State) : Shown s (offerReply k o r s) :=
  (offerReply_quiet k o r s).shown

theorem offerStops_shown (s : State) : Shown s (offerStops s) := (offerStops_quiet s).shown

theorem statusCause_shown (s : State) : Shown s (statusCause s) := (statusCause_quiet s).shown

theorem evalDemand_shown (s : State) : Shown s (evalDemand s) := (evalDemand_quiet s).shown

theorem endSale_shown (s : State) : Shown s (endSale s) := (endSale_quiet s).shown

theorem wantStop_shown (n : Nat) (o : Origin) (s : State) : Shown s (wantStop n o s) := by
  have asked := Shown.of_mapCall (s := s) n (stopFrom s.line.params s.now o) fun _ => ⟨rfl, rfl⟩
  unfold wantStop
  split
  · dsimp only
    split
    · exact asked.trans (offerStops_shown _)
    · exact asked
  · exact .refl s

/-! ## Sales -/

theorem issue_shown (s : State) (i : Issue) : Shown s { s with issue := i } := .of_same

theorem setHold_shown (k : Hold) (limit : Timer) (s : State) : Shown s (setHold k limit s) := .of_same

theorem carryQuote_shown (port : Port) (q : QuoteFields) (s : State) : Shown s (carryQuote port q s) := by
  unfold carryQuote
  split
  · exact refuse_shown port _ s
  · exact Shown.trans (issue_shown s _) ((evalDemand_shown _).trans (answer_shown port _ _))

theorem reportCommit_shown (n : Option Nat) (s : State) : Shown s (reportCommit n s) := by
  unfold reportCommit
  split
  · exact .refl s
  · refine Shown.trans ?_ (wantStop_shown _ _ _)
    exact Shown.of_mapCall _ _ fun _ => ⟨rfl, rfl⟩

theorem committed_shown (x : Sale) (t : Ticket) (s : State) : Shown s (committed x t s) := by
  have appended : Shown s (appendTicket t s) := .of_same
  refine (appended.trans (reportCommit_shown x.call _)).trans ?_
  unfold committed afterReport
  generalize reportCommit x.call (appendTicket t s) = v
  have tested (crossed : Bool) : Quiet v (grantAsked (nearFullTest (lowWater crossed { v with
      issue := { v.issue with sale := none } }))) :=
    (issue_quiet v _).trans ((lowWater_quiet _ _).trans ((nearFullTest_quiet _).trans (grantAsked_quiet _)))
  exact (tested _).shown

theorem BoardInv.carryCommit (h : BoardInv s) (port : Port) (n : Nat) : BoardInv (carryCommit port n s) := by
  unfold Machine.carryCommit
  split
  next x _ _ =>
    refine BoardInv.kept ?_ (answer_shown port _ _)
    rw [commitSale_eq]
    split
    · exact rebuild_board _
    · exact h.kept ((committed_shown _ _ s).trans (evalDemand_shown _))
  · exact h.kept (refuse_shown _ _ s)
  · exact h.kept (refuse_shown _ _ s)

theorem carryRelease_shown (port : Port) (v : Unit) (s : State) : Shown s (carryRelease port v s) := by
  refine Shown.trans ?_ (answer_shown port _ _)
  split
  · exact (endSale_shown s).trans (evalDemand_shown _)
  · exact .refl s

/-! ## Messages -/

theorem BoardInv.takeDelay (h : BoardInv s) (f : DelayFields) : BoardInv (takeDelay f s) := by
  unfold Machine.takeDelay
  split
  · exact rebuild_board _
  · exact h

theorem BoardInv.takeCancel (h : BoardInv s) (n : Nat) : BoardInv (takeCancel n s) := by
  unfold Machine.takeCancel
  split
  · exact rebuild_board _
  · exact h

theorem BoardInv.takeReinstate (h : BoardInv s) (n : Nat) : BoardInv (takeReinstate n s) := by
  unfold Machine.takeReinstate
  split
  · exact rebuild_board _
  · exact h

theorem BoardInv.takeStopAck (h : BoardInv s) (n : Nat) : BoardInv (takeStopAck n s) := by
  unfold Machine.takeStopAck
  split
  · exact rebuild_board _
  · exact h

theorem takeRestart_shown (v : Unit) (s : State) : Shown s (takeRestart v s) := by
  unfold takeRestart
  split
  case h_1 | h_2 | h_3 => exact setLink_shown _ s
  all_goals exact .refl s

theorem takeAdmit_shown (f : AdmitFields) (s : State) : Shown s (takeAdmit f s) := by
  have moved : Shown s (if s.line.link = .synced then setLink .admitted s else s) := by
    split
    · exact setLink_shown _ s
    · exact .refl s
  exact moved.trans .of_same

theorem takeSaleAck_shown (n : Nat) (s : State) : Shown s (takeSaleAck n s) := by
  unfold takeSaleAck
  split
  · exact .refl s
  · split
    · exact .refl s
    · exact .of_same

theorem takeGrant_shown (f : Nat × Nat) (s : State) : Shown s (takeGrant f s) := by
  refine Shown.trans ?_ (offerReply_shown _ _ _ _)
  split
  · exact .of_same
  · exact .refl s

theorem takeHold_shown (v : Unit) (s : State) : Shown s (takeHold v s) := by
  unfold takeHold
  split
  · split
    · exact setHold_shown _ _ s
    · exact (setHold_shown _ _ s).trans (offerHoldGranted_quiet _).shown
  · exact .refl s
  · exact (offerHoldGranted_quiet s).shown

theorem takeRelease_shown (v : Unit) (s : State) : Shown s (takeRelease v s) := by
  unfold takeRelease
  split
  · exact .refl s
  · exact setHold_shown _ _ s
  · exact (setHold_shown _ _ s).trans (offerHoldEnded_quiet _ _).shown

theorem BoardInv.takeLoadCall (h : BoardInv s) (f : LoadCallFields) : BoardInv (takeLoadCall f s) := by
  refine BoardInv.kept ?_ (offerReply_shown _ _ _ _)
  split
  · unfold carryLoadCall
    split
    · split <;> exact rebuild_board _
    · exact h.kept .of_same
  · exact h

theorem takeLoadEnd_shown (n : Nat) (s : State) : Shown s (takeLoadEnd n s) := by
  unfold takeLoadEnd
  split
  · exact (Shown.of_same : Shown s { s with calls := { s.calls with nextState := .complete } }).trans (offerReply_shown _ _ _ _)
  · exact offerReply_shown _ _ _ s

theorem fares_shown (s : State) (f : FareTable) : Shown s { s with fares := f } := .of_same

theorem takeFareDest_shown (f : Nat × Nat) (s : State) : Shown s (takeFareDest f s) := by
  refine Shown.trans ?_ (offerReply_shown _ _ _ _)
  split
  · exact fares_shown s _
  · exact .refl s

theorem takeFarePrice_shown (b : PriceBlock) (s : State) : Shown s (takeFarePrice b s) := by
  unfold takeFarePrice
  split
  · exact (fares_shown s _).trans (offerReply_shown _ _ _ _)
  · exact offerReply_shown _ _ _ s

theorem takeConcession_shown (f : ConcessionFields) (s : State) : Shown s (takeConcession f s) := by
  unfold takeConcession
  split
  · exact offerReply_shown _ _ _ s
  · split
    · exact offerReply_shown _ _ _ s
    · exact (fares_shown s _).trans (offerReply_shown _ _ _ _)

/-! ## The time base -/

theorem BoardInv.takeSetTime (h : BoardInv s) (f : Nat × BitVec 16) : BoardInv (takeSetTime f s) := by
  unfold Machine.takeSetTime
  split
  · exact (rebuild_board _).kept (offerReply_shown _ _ _ _)
  · exact h.kept (offerReply_shown _ _ _ s)

theorem beaconLink_shown (s : State) : Shown s (beaconLink s) := by
  unfold beaconLink
  split
  · exact setLink_shown _ s
  · split <;> exact setLink_shown _ s
  all_goals exact .refl s

theorem BoardInv.storeCondition (h : BoardInv s) (b : BeaconFields) : BoardInv (storeCondition b s) := by
  unfold Machine.storeCondition
  split
  · exact h
  · exact rebuild_board _

theorem clock_shown (s : State) {c : Clock} (time : c.timeState = s.clock.timeState) : Shown s { s with clock := c } :=
  .of_same (time := time)

theorem dispute_shown (s : State) : Shown s (dispute s) :=
  Shown.trans (clock_shown s (c := { s.clock with disputes := satSucc 255 s.clock.disputes }) rfl) (statusCause_shown _)

theorem startSlew_shown (n : Nat) (s : State) : Shown s (startSlew n s) := clock_shown s rfl

/-- A beacon that leaves the time of day and finds the time LOCKED rebuilds no board, and changes nothing a board shows. -/
theorem BoardInv.afterCorrection (h : BoardInv s) (set : s.clock.timeState ≠ .unset) (b : BeaconFields) (l : TimeOfDay)
    (stepped : Bool) : BoardInv (afterCorrection b l stepped s) := by
  unfold Machine.afterCorrection
  dsimp only
  split
  · exact rebuild_board _
  · split
    · exact rebuild_board _
    next other =>
      have locked : (adoptDay b l s).clock.timeState = .locked := by
        show s.clock.timeState = .locked
        cases time : s.clock.timeState with
        | unset => exact absurd time set
        | holdover => exact absurd time other
        | locked => rfl
      have same : Shown s (lock (adoptDay b l s)) := by
        rw [lock, if_pos locked]
        exact .of_same (time := locked.symm)
      exact h.kept same

theorem BoardInv.beaconTime (h : BoardInv s) (b : BeaconFields) : BoardInv (beaconTime b s) := by
  have timed : BoardInv (if (startOf s.clock).disturbed then s
      else if s.clock.timeState = .unset then setByBeacon b s else measureBeacon b s) := by
    split
    · exact h
    · split
      · exact rebuild_board _
      next set =>
        unfold measureBeacon
        dsimp only
        split
        · exact h.kept (dispute_shown s)
        · split
          · exact rebuild_board _
          · split <;> exact (h.kept (startSlew_shown _ s)).afterCorrection set b _ false
  exact timed.kept .of_same

theorem BoardInv.takeBeacon (h : BoardInv s) (b : BeaconFields) : BoardInv (takeBeacon b s) :=
  ((h.kept (beaconLink_shown s)).storeCondition b).beaconTime b

theorem BoardInv.crystalStep (h : BoardInv s) : BoardInv (crystalStep s) := by
  unfold Machine.crystalStep
  dsimp only
  split
  · exact rebuild_board _
  · refine h.kept ⟨rfl, rfl, rfl, tickClock_timeState _, fun c hc => ⟨_, List.mem_map_of_mem hc, rfl, rfl⟩⟩

/-! ## Frames sent -/

theorem BoardInv.itemSent (h : BoardInv s) (f : TxFrame) (i : Item) : BoardInv (itemSent f i s) := by
  unfold Machine.itemSent
  split
  · split
    · exact rebuild_board _
    · exact h
  · exact h.kept ((Quiet.of_line (statusSent_queued f s.line)).shown (t := Machine.statusSent f s))
  all_goals exact h

theorem BoardInv.sourceSent (h : BoardInv s) (f : TxFrame) : BoardInv (sourceSent f s) := by
  unfold Machine.sourceSent
  split
  · exact h.kept .of_same
  next i _ =>
    split
    · exact ((h.kept .of_same).itemSent f i).kept (offerStops_shown _)
    · exact h.itemSent f i
  next i _ =>
    refine BoardInv.itemSent ?_ f i
    split <;> exact h.kept .of_same
  · exact h.kept .of_same

theorem faultLink_shown (s : State) : Shown s (faultLink s) := by
  unfold faultLink
  split
  · split
    case h_1 | h_2 => exact setLink_shown _ s
    all_goals exact .refl s
  · exact .refl s

/-! ## Every command -/

theorem BoardInv.message {α : Type} {k : DownKind} {read : List Byte → Option α} {carryOut : α → State → State} {addr : Byte}
    {p : List Byte} (h : BoardInv s) (carried : ∀ v t, BoardInv t → BoardInv (carryOut v t)) :
    Answers BoardInv (.next (onMessage k read carryOut addr p s)) := by
  refine answers_next.2 (onMessage_keeps (fun h => h.kept .of_same) (fun t ht => ?_) (fun v t _ ht => carried v t ht) h)
  unfold onMalformed
  split
  · exact ht.kept (offerReply_shown _ _ _ t)
  · exact ht.kept .of_same

theorem BoardInv.request {α : Type} {cmd : Command} {read : List Byte → Option α} {carryOut : α → State → State}
    {port : Port} {req : Request} (h : BoardInv s) (carried : ∀ v t, BoardInv t → BoardInv (carryOut v t)) :
    Answers BoardInv (.next (onRequest cmd read carryOut port req s)) :=
  answers_next.2 (onRequest_keeps (fun t q _ ht => ht.kept (setPort_shown t port q)) carried h)

theorem endReset_board (straps : BitVec 4) (s : State) : BoardInv (endReset straps s) :=
  (BoardInv.of_build (s := firstBoard (readStraps straps (lowWater false s))) rfl).kept (evalDemandAt_shown _ _)

/-- Every command, in every state, keeps the board sound. -/
theorem exec_keepsBoard (c : Instr) (h : BoardInv s) : Answers BoardInv (exec c s) := by
  have line (l : Line) (condition : l.condition = s.line.condition) (text : l.textCode = s.line.textCode) :
      BoardInv { s with line := l } := h.kept (.of_same (condition := condition) (textCode := text))
  have screen (c : Screen) : BoardInv { s with screen := c } := h.kept .of_same
  have platform (m : Platform) : BoardInv { s with platform := m } := h.kept .of_same
  have vport (p : PortState) : BoardInv { s with vport := p } := h.kept .of_same
  have issue (i : Issue) : BoardInv { s with issue := i } := h.kept .of_same
  cases c with
  | fullReset pins => exact answers_ite (fun _ => answers_next.2 (endReset_board _ _)) fun _ => answers_next.2 (endReset_board _ _)
  | vbakLow => exact answers_next.2 (h.kept .of_same)
  | vendingPortHold | signagePortHold => exact answers_next.2 (h.kept .of_same)
  | vendingPortReset selLow =>
    refine answers_next.2 ?_
    split
    · exact (vport _).kept ((endSale_shown _).trans (evalDemand_shown _))
    · exact vport _
  | signagePortReset => exact answers_next.2 (h.kept .of_same)
  | strapRead straps =>
    refine answers_guard (fun _ => BoardInv.kept ?_ (setLink_shown .hunt _)) h
    exact line _ rfl rfl
  | occAsserted =>
    show Answers BoardInv (execOccAsserted s)
    unfold execOccAsserted
    dsimp only
    split
    · exact answers_next.2 (platform _)
    · exact answers_next.2 (platform _)
    · exact answers_ite (fun _ => answers_next.2 (platform _)) fun _ => answers_guard (fun _ => rebuild_board _) (platform _)
    all_goals exact answers_guard (fun _ => platform _) (platform _)
  | occReleased =>
    show Answers BoardInv (execOccReleased s)
    unfold execOccReleased
    dsimp only
    split
    · exact answers_next.2 (platform _)
    · exact answers_next.2 (platform _)
    all_goals exact answers_guard (fun _ => platform _) (platform _)
  | buttonPress =>
    have pressed : BoardInv (latchS .stopButton { s with platform := { s.platform with
        lastPress := some s.clock.crystal, buttonDemand := some Config.demandTime } }) := h.kept .of_same
    refine answers_ite (fun _ => ?_) fun _ => answers_next.2 h
    dsimp only
    split
    · exact answers_guard (fun _ => rebuild_board _) (pressed.kept (evalDemand_shown _))
    · exact answers_next.2 (pressed.kept (evalDemand_shown _))
  | ambPulse => exact answers_next.2 (screen _)
  | crystalTick => exact answers_next.2 h.crystalStep
  | time port | calls port | salesState port | board port | condition port =>
    exact h.request fun _ t ht => ht.kept (answer_shown port _ t)
  | quote port => exact h.request fun q t ht => ht.kept (carryQuote_shown port q t)
  | commit port => exact h.request fun n t ht => ht.carryCommit port n
  | releaseRequest port => exact h.request fun v t ht => ht.kept (carryRelease_shown port v t)
  | notices port => exact h.request fun m t ht => (ht.kept (setPort_shown t port _)).kept (answer_shown port _ _)
  | screen port =>
    refine h.request fun f t ht => BoardInv.kept ?_ (answer_shown port _ _)
    have trimmed : BoardInv (setTrim f.trim t) := by
      unfold setTrim
      split
      · exact ht.kept .of_same
      · exact ht
    unfold setMode
    split
    · exact (trimmed.kept .of_same).kept (evalDemand_shown { setTrim f.trim t with screen := _ })
    · exact trimmed
  | ready port =>
    refine h.request fun v t ht => BoardInv.kept ?_ (answer_shown port _ _)
    split
    · exact ht.kept .of_same
    · exact ht
  | quiet port =>
    refine h.request fun v t ht => ?_
    unfold carryQuiet
    split
    · exact ht.kept (refuse_shown port _ t)
    · split
      · exact ht.kept (refuse_shown port _ t)
      · have off : BoardInv { sigpwrOff t with screen := { (sigpwrOff t).screen with quiet := true } } := ht.kept .of_same
        exact off.kept (answer_shown port _ _)
  | collection port clocked =>
    exact answers_ite (fun _ => answers_next.2 h) fun _ => answers_next.2
      (onTransaction_keeps (fun t q _ ht => ht.kept (setPort_shown t port q)) (fun _ t ht => ht.kept (setPort_shown t port _)) h)
  | unknownCommand port req =>
    show Answers BoardInv (execUnknownCommand port req s)
    unfold execUnknownCommand
    split
    · exact answers_next.2 h
    · exact answers_guard (fun _ => onTransaction_keeps (fun t q _ ht => ht.kept (setPort_shown t port q))
        (fun _ t ht => ht.kept (refuse_shown port _ t)) h) h
  | downwardFrameStart => exact answers_guard (fun _ => h.kept .of_same) h
  | badFrame => exact answers_guard (fun _ => h.kept .of_same) h
  | frameDiscarded addr kind p =>
    have done : BoardInv (frameDone s) := h.kept .of_same
    refine answers_ite (fun _ => ?_) fun _ => answers_next.2 h
    split
    · exact answers_guard (fun _ => h) done
    · exact answers_guard (fun _ => h.kept .of_same) done
  | beacon => exact h.message fun b t ht => ht.takeBeacon b
  | delay => exact h.message fun f t ht => ht.takeDelay f
  | cancel => exact h.message fun n t ht => ht.takeCancel n
  | reinstate => exact h.message fun n t ht => ht.takeReinstate n
  | restart => exact h.message fun v t ht => ht.kept (takeRestart_shown v t)
  | admission => exact h.message fun f t ht => ht.kept (takeAdmit_shown f t)
  | stopAck => exact h.message fun n t ht => ht.takeStopAck n
  | saleAck => exact h.message fun n t ht => ht.kept (takeSaleAck_shown n t)
  | serialGrant => exact h.message fun f t ht => ht.kept (takeGrant_shown f t)
  | hold => exact h.message fun v t ht => ht.kept (takeHold_shown v t)
  | releaseMessage => exact h.message fun v t ht => ht.kept (takeRelease_shown v t)
  | loadCall => exact h.message fun f t ht => ht.takeLoadCall f
  | loadClear =>
    refine h.message fun v t ht => BoardInv.kept ?_ (offerReply_shown _ _ _ _)
    exact ht.kept .of_same
  | loadEnd => exact h.message fun n t ht => ht.kept (takeLoadEnd_shown n t)
  | loadFareDest => exact h.message fun f t ht => ht.kept (takeFareDest_shown f t)
  | loadFarePrice => exact h.message fun b t ht => ht.kept (takeFarePrice_shown b t)
  | loadConcession => exact h.message fun f t ht => ht.kept (takeConcession_shown f t)
  | loadParams => exact h.message fun p t _ => (rebuild_board _).kept (offerReply_shown _ _ _ _)
  | setTime => exact h.message fun f t ht => ht.takeSetTime f
  | upwardFrameStart =>
    show Answers BoardInv (execUpwardFrameStart s)
    unfold execUpwardFrameStart
    split
    · exact answers_next.2 (line _ rfl rfl)
    · exact answers_next.2 h
  | frameComplete =>
    show Answers BoardInv (execFrameComplete s)
    unfold execFrameComplete
    split
    · refine answers_guard (fun _ => BoardInv.sourceSent ?_ _) h
      exact line _ rfl rfl
    · exact answers_next.2 h
  | contentionLoss => exact answers_guard (fun _ => line _ rfl rfl) h
  | lineFault =>
    refine answers_guard (fun _ => BoardInv.kept ?_ (faultLink_shown _)) h
    exact line _ rfl rfl
  | thresholdReturn => exact answers_next.2 (line _ rfl rfl)
  | quoteLapse =>
    refine answers_guard (fun _ => BoardInv.kept ?_ (evalDemand_shown _)) h
    exact BoardInv.kept (h.kept .of_same) (grantAsked_quiet (latchV .quoteLapsed { s with issue := _ })).shown
  | holdExpiry => exact answers_guard (fun _ => BoardInv.kept (h.kept .of_same) (offerHoldEnded_quiet _ (setHold .free none s)).shown) h
  | serialAskRepeat => exact answers_guard (fun _ => (issue _).kept (lowWater_quiet _ _).shown) h
  | holdoverExpiry => exact answers_guard (fun _ => rebuild_board _) h
  | stopAckTimeout n => exact answers_guard (fun _ => rebuild_board _) h
  | ackTimerExpiry => exact answers_guard (fun _ => line _ rfl rfl) h
  | joinTimerExpiry => exact answers_guard (fun _ => line _ rfl rfl) h
  | admissionTimeout | silenceTimeout | lostTimeout => exact answers_guard (fun _ => h.kept (setLink_shown _ s)) h
  | statusPeriod =>
    refine answers_guard (fun _ => BoardInv.kept ?_ (statusCause_shown _)) h
    exact line _ rfl rfl
  | quoteDemandExpiry => exact answers_guard (fun _ => (issue _).kept (evalDemand_shown _)) h
  | buttonDemandExpiry => exact answers_guard (fun _ => (platform _).kept (evalDemand_shown _)) h
  | settleExpiry => exact answers_guard (fun _ => platform _) h
  | stopThresholdExpiry =>
    exact answers_ite (fun _ => answers_guard (fun _ => platform _) (rebuild_board _)) fun _ => answers_next.2 h
  | releaseTimerExpiry =>
    refine answers_ite (fun _ => ?_) fun _ => answers_next.2 h
    split
    · exact answers_next.2 (rebuild_board _)
    · exact answers_next.2 (rebuild_board _)
    · refine answers_next.2 ?_
      unfold endBlind
      dsimp only
      split
      · exact rebuild_board _
      · exact platform _
    all_goals exact answers_next.2 h
  | standingExpiry =>
    exact answers_ite (fun _ => answers_guard (fun _ => (platform _).kept (offerObservation_quiet _ _ _ _).shown) (platform _))
      fun _ => answers_next.2 h
  | readyTimeout =>
    refine answers_guard (fun _ => BoardInv.kept ?_ (statusCause_shown _)) h
    exact h.kept .of_same
  | settlingExpiry =>
    refine answers_ite (fun _ => answers_next.2 h) fun _ => ?_
    split
    · exact answers_next.2 (screen _)
    · refine answers_next.2 (BoardInv.kept ?_ (evalDemand_shown _))
      exact h.kept .of_same
    all_goals exact answers_next.2 h
  | idleDelayExpiry =>
    refine answers_guard (fun _ => BoardInv.kept ?_ (evalDemand_shown _)) h
    exact h.kept .of_same
  | faultRetryExpiry => exact answers_guard (fun _ => (screen _).kept ((statusCause_shown _).trans (evalDemand_shown _))) h
  | ambientWindowEnd => exact answers_guard (fun _ => h.kept .of_same) h
  | duePointReached n | lapsePointReached n => exact answers_guard (fun _ => rebuild_board _) h
  | horizonEntryReached | displayEndReached | stalenessPointReached => exact answers_guard (fun _ => rebuild_board _) h
  | wakeEntryReached => exact answers_guard (fun _ => h.kept (evalDemand_shown s)) h
  | rollover => exact answers_guard (fun _ => h.crystalStep) h
  | selRisesInDiscard port => exact answers_guard (fun _ => h.kept (setPort_shown s port _)) h
  | symbolPeriodEnd message echo =>
    refine answers_next.2 (h.kept (.of_same (time := ?_)))
    dsimp only
    split <;> rfl

end Board

/-- Settles O60: the board by `exec_keepsBoard`, the ports by `exec_touches`. -/
theorem boardAndPortsKept : Obligations.BoardAndPortsKept := by
  unfold Obligations.BoardAndPortsKept
  intro s t h
  refine ⟨step_keeps_of_answers (fun _ _ hs => hs.kept .of_same) (fun c s hs => exec_keepsBoard c hs) h,
    step_keeps_of_answers (P := fun s => PortInv .vending s.vport) (fun _ _ => id) (fun c s hs => ?_) h,
    step_keeps_of_answers (P := fun s => PortInv .signage s.sport) (fun _ _ => id) (fun c s hs => ?_) h⟩
  · exact (exec_touches c s).imp fun _ same => same.ports .vending hs
  · exact (exec_touches c s).imp fun _ same => same.ports .signage hs

end Sys2Proof.Machine


/-! A warm start: the start actions one after another, and the statement of the whole state after them. -/

namespace Sys2Proof.Machine

-- One theorem at a time: the whole text is checked in one process.
set_option Elab.async false

/-! ## A recomputation and an evaluation, for one call -/

/-- A call recomputed and, with the time set, evaluated at `now` (R29 to R36). -/
def ranCall (p : Params) (isSet : Bool) (now : Nat) (c : Call) : Call :=
  let d := recompute c
  if isSet && (d.state = .scheduled || d.state = .due) then
    { d with state :=
      if (approach d).any fun a => a + p.attribution < now then .lapsed
      else if (approach d).any fun a => a ≤ now + p.dueWindow then .due
      else .scheduled }
  else d

@[simp] theorem ranCall_toScheduled (p : Params) (isSet : Bool) (now : Nat) (c : Call) :
    (ranCall p isSet now c).toScheduled = c.toScheduled := by
  unfold ranCall
  dsimp only
  split <;> exact (recompute_keepsStop .none c).sched

theorem beforeArrival_live (c : Call) : (beforeArrival c).state = c.state ∧ (beforeArrival c).ackTimer = c.ackTimer := by
  unfold beforeArrival
  dsimp only
  split <;> exact ⟨rfl, rfl⟩

theorem recompute_live (c : Call) : (recompute c).state = c.state ∧ (recompute c).ackTimer = c.ackTimer := by
  unfold recompute
  split
  · exact ⟨rfl, rfl⟩
  · exact ⟨rfl, rfl⟩
  · exact beforeArrival_live c

@[simp] theorem ranCall_stop (p : Params) (isSet : Bool) (now : Nat) (c : Call) : (ranCall p isSet now c).stop = c.stop := by
  unfold ranCall
  dsimp only
  split <;> exact recompute_stop c

@[simp] theorem ranCall_ackTimer (p : Params) (isSet : Bool) (now : Nat) (c : Call) :
    (ranCall p isSet now c).ackTimer = c.ackTimer := by
  unfold ranCall
  dsimp only
  split <;> exact (recompute_live c).2

/-- An ARRIVED call stays ARRIVED. -/
theorem ranCall_arrived {p : Params} {isSet : Bool} {now : Nat} {c : Call} :
    (ranCall p isSet now c).state = .arrived ↔ c.state = .arrived := by
  rw [← (recompute_live c).1]
  unfold ranCall
  dsimp only
  generalize recompute c = d
  split
  case isTrue isOpen =>
    have other : d.state ≠ .arrived := fun h => by simp [h] at isOpen
    refine iff_of_false ?_ other
    dsimp only
    split <;> [skip; split] <;> exact fun h => nomatch h
  case isFalse => exact Iff.rfl

/-- The state of an open call after an evaluation, in plain terms. -/
theorem evaluated_open {p : Params} {now : Nat} {c : Call} (isOpen : c.state.isOpen = true) : evaluated p now c =
    if (approach c).any fun a => a + p.attribution < now then .lapsed
    else if (approach c).any fun a => a ≤ now + p.dueWindow then .due
    else .scheduled := by
  rw [evaluated, isOpen, isPast_lapsePoint, isReached_duePoint]
  rfl

/-- With the time set, a call is recomputed and takes its evaluated state. -/
theorem ranCall_set (p : Params) (now : Nat) (c : Call) :
    ranCall p true now c = { recompute c with state := evaluated p now (recompute c) } := by
  unfold ranCall
  dsimp only
  rw [Bool.true_and, ← CallState.isOpen_eq]
  split
  case isTrue isOpen => rw [evaluated_open isOpen]
  case isFalse shut => rw [evaluated, if_pos (by rw [Bool.not_eq_true _ |>.mp shut]; rfl)]

/-- Before arrival, a recomputation reads nothing that it, or an evaluation, has changed (R29). -/
theorem beforeArrival_again (c : Call) (k : CallState) :
    beforeArrival { beforeArrival c with state := k } = { beforeArrival c with state := k } := by
  obtain ⟨⟨service, dest, kind, sa, sd, md, served, points⟩, live⟩ := c
  cases sa <;> rfl

theorem evaluated_of_open (p : Params) (now : Nat) {c : Call} (isOpen : c.state.isOpen = true) :
    evaluated p now c = .scheduled ∨ evaluated p now c = .due ∨ evaluated p now c = .lapsed := by
  rw [evaluated_open isOpen]
  split
  · exact .inr (.inr rfl)
  · split
    · exact .inr (.inl rfl)
    · exact .inl rfl

theorem evaluated_again (p : Params) (now : Nat) {c : Call} (isOpen : c.state.isOpen = true) :
    evaluated p now { c with state := evaluated p now c } = evaluated p now c := by
  have plain := evaluated_open (p := p) (now := now) isOpen
  rcases evaluated_of_open p now isOpen with h | h | h
  · exact (evaluated_open (by rw [h]; rfl)).trans plain.symm
  · exact (evaluated_open (by rw [h]; rfl)).trans plain.symm
  · rw [h]
    rfl

/-- A call that has not arrived is left as it is by a second recomputation and evaluation at the same time. -/
theorem ranCall_again {p : Params} {isSet : Bool} {now : Nat} {c : Call} (state : c.state = .scheduled) :
    ranCall p isSet now (ranCall p isSet now c) = ranCall p isSet now c := by
  have pending {d : Call} (h : d.state = .scheduled ∨ d.state = .due ∨ d.state = .lapsed) : recompute d = beforeArrival d := by
    rcases h with h | h | h <;> rw [recompute, h]
  cases isSet with
  | false =>
    show recompute (recompute c) = recompute c
    rw [pending (.inl state), pending (.inl ((beforeArrival_live c).1.trans state))]
    exact beforeArrival_again c (beforeArrival c).state
  | true =>
    have isOpen : (beforeArrival c).state.isOpen = true := by
      rw [(beforeArrival_live c).1, state]
      rfl
    rw [ranCall_set _ _ c, pending (.inl state), ranCall_set, pending (evaluated_of_open p now isOpen), beforeArrival_again,
      evaluated_again p now isOpen]

/-- Where no stop is queued, no sale pending and no timer runs, an evaluation is that of each call alone. -/
theorem recomputeAll_calls {s : State} (queue : s.line.urgent = []) (sale : s.issue.sale = none)
    (acks : ∀ c ∈ s.calls.active, c.ackTimer = none) :
    recomputeAll s = s.mapActive (ranCall s.line.params s.timeSet s.now) := by
  cases set : s.timeSet with
  | false =>
    have plain : ranCall s.line.params false s.now = recompute := rfl
    rw [plain, recomputeAll, evaluateAll]
    exact if_neg (Bool.not_eq_true _ ▸ set)
  | true =>
    have each : ((s.mapActive recompute).mapActive fun c => { c with state := evaluated s.line.params s.now c })
        = s.mapActive (ranCall s.line.params true s.now) := by
      rw [funext (ranCall_set s.line.params s.now)]
      simp only [State.mapActive, List.map_map]
      rfl
    refine (if_pos set).trans ?_
    rw [foldl_leaveSaleable_eq]
    refine (leaving_of_quiet ?_ ?_ ?_).trans each
    · exact fun i hi => absurd (queue ▸ hi) List.not_mem_nil
    · exact (congrArg (Option.any _) sale).trans rfl
    · intro c hc _
      simp only [State.mapActive, List.map_map] at hc
      obtain ⟨d, hd, rfl⟩ := List.mem_map.1 hc
      exact (recompute_live d).2.trans (acks d hd)

end Sys2Proof.Machine


/-! A warm start, up to the offers of the waiting stops. -/

namespace Sys2Proof.Machine

-- One theorem at a time: the whole text is checked in one process.
set_option Elab.async false

/-- A rollover is carried out at this warm start: it was owed, or the day has ended during the reset (R65). -/
def warmNewDay (pins : ResetPins) (s : State) : Bool := (warmClock s.clock pins.heldTicks).owed

/-- The new day is that of the ending bank, re-armed (R23). -/
def warmRearms (pins : ResetPins) (s : State) : Bool := warmNewDay pins s && !decide (s.calls.nextState = .complete)

/-- A call found at a warm start: no acknowledgement timer runs, and a stop that was SENT is WANTED again (R24). -/
def wokenCall (c : Call) : Call := { c with stop := if c.stop = .sent then .wanted else c.stop, ackTimer := none }

/-- The calls of the ACTIVE bank before they are recomputed. -/
def warmBank (pins : ResetPins) (s : State) : List Call :=
  if warmNewDay pins s then (if decide (s.calls.nextState = .complete) then s.calls.next else s.calls.active).map Call.cleared
  else s.calls.active.map wokenCall

/-- The second of the day at which a warm start acts (R65). -/
def warmNow (pins : ResetPins) (s : State) : Nat := (warmClock s.clock pins.heldTicks).time.sec

/-- The calls of the ACTIVE bank, recomputed and evaluated. -/
def warmRan (pins : ResetPins) (s : State) : List Call :=
  (warmBank pins s).map (ranCall s.line.params s.clock.setMarker (warmNow pins s))

/-- The two banks after the rollover that was owed, the ACTIVE one holding these calls. -/
def warmTable (pins : ResetPins) (s : State) (active : List Call) : CallTable where
  active := active
  next := if warmNewDay pins s && decide (s.calls.nextState = .complete) then [] else s.calls.next
  nextState := if warmNewDay pins s && decide (s.calls.nextState = .complete) then .empty else s.calls.nextState

/-- The state of a warm start after the rollover that was owed, the ACTIVE bank holding these calls. -/
def warmWith (pins : ResetPins) (s : State) (active : List Call) : State :=
  { warmStart pins s with
    calls := warmTable pins s active
    clock := { warmClock s.clock pins.heldTicks with owed := false }
    line := { warmLine s.line s.issue with
      tableReused := warmRearms pins s
      routine := if warmRearms pins s then [.status] else [] } }

section WarmStart

variable {pins : ResetPins} {s : State}

theorem warmWith_timeSet (active : List Call) : (warmWith pins s active).timeSet = s.clock.setMarker := by
  show ((if s.clock.setMarker then TimeState.holdover else .unset) != .unset) = _
  cases s.clock.setMarker <;> rfl

/-- An evaluation of every call at a warm start. -/
theorem recomputeAll_warmWith {active : List Call} (acks : ∀ c ∈ active, c.ackTimer = none) :
    recomputeAll (warmWith pins s active)
      = warmWith pins s (active.map (ranCall s.line.params s.clock.setMarker (warmNow pins s))) := by
  refine (recomputeAll_calls rfl rfl acks).trans ?_
  rw [warmWith_timeSet]
  rfl

theorem warmStop_eq {c : Call} (h : StopFields c) : warmStop c = wokenCall c := by
  have quiet (hs : c.stop ≠ .sent) : c.ackTimer = none := by
    cases ha : c.ackTimer with
    | none => rfl
    | some t => exact absurd (h.ackTimer (by rw [ha]; rfl)).1 hs
  have same (hs : c.stop ≠ .sent) : wokenCall c = { c with ackTimer := none } := by
    rw [wokenCall, if_neg hs]
  unfold warmStop
  by_cases sent : c.stop = .sent
  · simp [sent, wokenCall]
  · rw [same sent]
    by_cases wanted : c.stop = .wanted
    · simp [wanted]
    · rw [if_neg (by simp [wanted, sent]), ← quiet sent]

theorem warmStop_unasked {c : Call} (h : c.stop = .none) : warmStop c = c := by
  simp [warmStop, h]

theorem mem_warmBank_newDay (newDay : warmNewDay pins s = true) {c : Call} (hc : c ∈ warmBank pins s) : ∃ d : Call, c = d.cleared := by
  rw [warmBank, if_pos newDay] at hc
  obtain ⟨d, -, hd⟩ := List.mem_map.1 hc
  exact ⟨d, hd.symm⟩

/-- The ending day closed and the new one opened, where a rollover is owed (R22, R23). -/
theorem openDay_warm (newDay : warmNewDay pins s = true) :
    openDay (closeDay { warmStart pins s with clock := { warmClock s.clock pins.heldTicks with owed := false } })
      = warmWith pins s (warmBank pins s) := by
  rw [openDay_closeDay fun i hi => absurd hi List.not_mem_nil]
  unfold warmWith warmTable warmRearms warmBank
  rw [newDay]
  by_cases complete : s.calls.nextState = .complete
  · simp only [complete]
    exact (if_pos complete).trans rfl
  · simp only [complete]
    refine (if_neg complete).trans ?_
    rw [reportRearm_eq]
    rfl

/-- A rollover owed, carried out. -/
theorem owedRollover_warm (newDay : warmNewDay pins s = true) :
    owedRollover (warmStart pins s) = warmWith pins s (warmRan pins s) := by
  have crossed : (resetPlatform pins.occ s.calls.active).crossed = resetPlatform pins.occ s.calls.active := by
    cases pins with
    | mk ticks straps occ vsel ssel => cases occ <;> rfl
  refine (if_pos newDay).trans ?_
  have acks : ∀ c ∈ warmBank pins s, c.ackTimer = none := fun c hc => by
    obtain ⟨d, rfl⟩ := mem_warmBank_newDay newDay hc
    rfl
  show markDayCrossed (recomputeAll (openDay (closeDay { warmStart pins s with
    clock := { warmClock s.clock pins.heldTicks with owed := false } }))) = _
  rw [openDay_warm newDay, recomputeAll_warmWith acks, markDayCrossed_eq]
  exact congrArg (fun m => { warmWith pins s (warmRan pins s) with platform := m }) crossed

/-- The calls after the start actions that come before the offers. -/
theorem recomputeAll_warm (stops : StopInv s) :
    recomputeAll ((owedRollover (warmStart pins s)).mapActive warmStop) = warmWith pins s (warmRan pins s) := by
  cases newDay : warmNewDay pins s with
  | true =>
    have cleared : ∀ c ∈ warmRan pins s, c.stop = .none ∧ c.ackTimer = none ∧
        ranCall s.line.params s.clock.setMarker (warmNow pins s) c = c := fun c hc => by
      obtain ⟨d, hd, rfl⟩ := List.mem_map.1 hc
      obtain ⟨e, rfl⟩ := mem_warmBank_newDay newDay hd
      exact ⟨ranCall_stop .., ranCall_ackTimer .., ranCall_again rfl⟩
    have woken : (warmWith pins s (warmRan pins s)).mapActive warmStop = warmWith pins s (warmRan pins s) :=
      congrArg (warmWith pins s) ((List.map_congr_left (g := id) fun c hc => warmStop_unasked (cleared c hc).1).trans (List.map_id _))
    rw [owedRollover_warm newDay, woken, recomputeAll_warmWith fun c hc => (cleared c hc).2.1]
    exact congrArg (warmWith pins s) ((List.map_congr_left (g := id) fun c hc => (cleared c hc).2.2).trans (List.map_id _))
  | false =>
    have still : owedRollover (warmStart pins s) = warmStart pins s := if_neg (Bool.not_eq_true _ ▸ newDay)
    have woken : (warmStart pins s).mapActive warmStop = warmWith pins s (warmBank pins s) := by
      have bank : s.calls.active.map warmStop = warmBank pins s := by
        rw [warmBank, newDay]
        exact List.map_congr_left fun c hc => warmStop_eq (stops.fields c hc)
      have clock : warmClock s.clock pins.heldTicks = { warmClock s.clock pins.heldTicks with owed := false } :=
        congrArg (fun b => { warmClock s.clock pins.heldTicks with owed := b }) newDay
      have rearms : warmRearms pins s = false := by rw [warmRearms, newDay, Bool.false_and]
      refine State.ext_blocks ?_ rfl clock rfl rfl ?_ rfl rfl rfl rfl rfl rfl
      · unfold warmWith warmTable
        rw [newDay, ← bank]
        rfl
      · unfold warmWith
        rw [rearms]
        rfl
    rw [still, woken, recomputeAll_warmWith]
    · rfl
    · intro c hc
      rw [warmBank, newDay] at hc
      obtain ⟨d, -, rfl⟩ := List.mem_map.1 hc
      rfl

end WarmStart

end Sys2Proof.Machine


/-! A warm start: the offers of the waiting stops, and the departure of a call held over. -/

namespace Sys2Proof.Machine

-- One theorem at a time: the whole text is checked in one process.
set_option Elab.async false

/-- The call whose departure a warm start reports: the one held over, with OCC released (R168). -/
def warmDeparts (pins : ResetPins) (s : State) : Option Nat := if pins.occ then none else heldOverOf s.calls.active

/-- A call the warm start reports as departed: the one held over, unless the rollover has taken it. -/
def warmLeaves (pins : ResetPins) (s : State) (n : Nat) : Bool := !warmNewDay pins s && decide (warmDeparts pins s = some n)

/-- The STOP_REQUEST items that stand in the urgent queue, these calls having waited. -/
def warmStops (pins : ResetPins) (s : State) (order : List Call) : List Item :=
  ((order.take 16).filter fun c => !warmLeaves pins s c.service).map stopItem

/-- The departure a warm start offers. -/
def warmDeparture (pins : ResetPins) (s : State) : List Item :=
  let time : Option Nat := if s.clock.setMarker then some (warmNow pins s) else none
  match warmDeparts pins s with
  | none => []
  | some n => [if warmNewDay pins s then .observation .unmatchedDeparture none time else .observation .departure (some n) time]

/-- A departed call, by R31. -/
def departedAt (now : Nat) (c : Call) : Call :=
  { c with
    state := .departed
    ad := some now
    ea := c.sa.bind fun _ => if c.passed then some now else c.aa
    ed := c.sd.map fun _ => now
    beyond := false }

/-- The line with these items offered after the stops. -/
def Line.offered (stops departure : List Item) (l : Line) : Line :=
  { l with
    urgent := stops ++ if stops.length < 16 then departure else []
    discards := if stops.length < 16 then 0 else departure.length }

/-- The monitor after the departure of a call held over (R167, R168). -/
def warmPlatform (pins : ResetPins) (s : State) : Platform :=
  { resetPlatform pins.occ s.calls.active with heldOver := if pins.occ then heldOverOf s.calls.active else none }

/-- The state after the start actions of the call table and the monitor, these calls having waited for an offer. -/
def warmActed (pins : ResetPins) (s : State) (order : List Call) : State :=
  { warmWith pins s ((warmRan pins s).map fun c => if warmLeaves pins s c.service then departedAt (warmNow pins s) c else c) with
    line := (warmWith pins s []).line.offered (warmStops pins s order) (warmDeparture pins s)
    platform := warmPlatform pins s }

section WarmStart

variable {pins : ResetPins} {s : State}

theorem warmRan_good (banks : BankInv s) : GoodBank (warmRan pins s) := by
  have cleared {b : List Call} (h : GoodBank b) : GoodBank (b.map Call.cleared) := h.map fun _ => rfl
  refine GoodBank.map ?_ fun c => ranCall_toScheduled ..
  unfold warmBank
  split
  · split
    · exact cleared banks.next
    · exact cleared banks.active
  · exact banks.active.map fun _ => rfl

theorem warmRan_acks {c : Call} (hc : c ∈ warmRan pins s) : c.ackTimer = none := by
  obtain ⟨d, hd, rfl⟩ := List.mem_map.1 hc
  rw [ranCall_ackTimer]
  unfold warmBank at hd
  split at hd <;> (obtain ⟨e, -, rfl⟩ := List.mem_map.1 hd; rfl)

/-- The calls that wait for an offer, in the order of R20. -/
def warmOrder (pins : ResetPins) (s : State) : List Call := waitingCalls (warmWith pins s (warmRan pins s))

theorem warmOrder_perm : (warmOrder pins s).Perm ((warmRan pins s).filter fun c =>
    (c.state = .scheduled || c.state = .due || c.state = .arrived) && c.stop = .wanted) := by
  refine (sortBy_perm _ _).trans (List.Perm.of_eq (List.filter_congr fun c _ => ?_))
  rw [waitsForStop_eq]
  exact Bool.and_true _

theorem warmOrder_pairwise (banks : BankInv s) : (warmOrder pins s).Pairwise fun c d =>
    ∀ a b, approach c = some a → approach d = some b → a < b ∨ (a = b ∧ c.service ≤ d.service) :=
  (waitingCalls_pairwise (s := warmWith pins s (warmRan pins s)) (warmRan_good banks)).imp fun h => h.2

/-- The start actions of the call table. -/
theorem warmCalls_warm (stops : StopInv s) : warmCalls (owedRollover (warmStart pins s)) =
    { warmWith pins s (warmRan pins s) with line :=
      { (warmWith pins s (warmRan pins s)).line with urgent := ((warmOrder pins s).take 16).map stopItem } } := by
  have room : (warmWith pins s (warmRan pins s)).line.urgent.length ≤ 16 := Nat.zero_le _
  have count : (warmWith pins s (warmRan pins s)).line.discards ≤ 65535 := Nat.zero_le _
  have taken (n : Nat) : offersTaken (warmWith pins s (warmRan pins s)).line n = min n 16 := rfl
  have lost (n : Nat) : itemsLost (warmWith pins s (warmRan pins s)).line n = 0 := by
    rw [itemsLost, taken]
    exact Nat.sub_eq_zero_of_le (by rw [show (warmWith pins s (warmRan pins s)).line.urgent.length = 0 from rfl]; omega)
  rw [warmCalls, recomputeAll_warm stops, offerStops, offerAll_eq _ _ room count, lost, taken]
  have first : (warmOrder pins s).take (min (warmOrder pins s).length 16) = (warmOrder pins s).take 16 :=
    List.take_eq_take_iff.2 (by omega)
  have items : dropOthers 0 [] ++ ((warmOrder pins s).take (min (warmOrder pins s).length 16)).map stopItem
      = ((warmOrder pins s).take 16).map stopItem := by
    rw [first]
    rfl
  exact congrArg (fun u => { warmWith pins s (warmRan pins s) with
    line := { (warmWith pins s (warmRan pins s)).line with urgent := u } }) items

/-- What R17 does where no sale is pending, no frame on the line and no timer running. -/
theorem leaving_of_idle {p : Nat → Bool} {s : State} (sale : s.issue.sale = none) (tx : s.line.tx = none)
    (acks : ∀ c ∈ s.calls.active, c.ackTimer = none) :
    leaving p s = { s with line := { s.line with urgent := s.line.urgent.filter fun i => !i.stopOf.any p } } := by
  have calls : (s.calls.active.map fun c => if p c.service then { c with ackTimer := none } else c) = s.calls.active :=
    (List.map_congr_left (g := id) fun c hc => by
      split
      · exact congrArg (fun k => { c with ackTimer := k }) (acks c hc).symm
      · rfl).trans (List.map_id _)
  have unbound := leaving_unbound (p := p) (s := s) fun x hx => nomatch sale.symm.trans hx
  refine State.ext_blocks ?_ rfl rfl rfl unbound.1 ?_ rfl rfl unbound.2 rfl rfl rfl
  · exact congrArg (fun bank => { s.calls with active := bank }) calls
  · rw [leaving_line, tx]
    simp only [tx, Option.map_none, ite_self]

/-- An item offered to the urgent queue. -/
theorem Line.enqueue_urgent_eq (i : Item) (l : Line) : l.enqueue .urgent i = { l with
    urgent := l.urgent ++ if l.urgent.length < 16 then [i] else []
    discards := if l.urgent.length < 16 then l.discards else satSucc Config.countTop l.discards } := by
  by_cases room : l.urgent.length < 16
  · simp only [enqueue_urgent_room room, if_pos room]
  · simp only [enqueue_urgent_full (Nat.le_of_not_lt room), if_neg room, List.append_nil]

/-- The state after the offers of the waiting stops. -/
def warmAsked (pins : ResetPins) (s : State) : State :=
  { warmWith pins s (warmRan pins s) with
    line := { (warmWith pins s (warmRan pins s)).line with urgent := ((warmOrder pins s).take 16).map stopItem } }

/-- The departure of a call held over, by what the start reports of it. -/
theorem heldOverDeparture_warm : heldOverDeparture (warmAsked pins s) = match warmDeparts pins s with
    | none => warmAsked pins s
    | some n => reportDeparture n { time := (warmClock s.clock pins.heldTicks).time, isSet := s.clock.setMarker }
        { warmAsked pins s with platform := { (warmAsked pins s).platform with heldOver := none } } := by
  have stamp : stampNow (warmAsked pins s) = { time := (warmClock s.clock pins.heldTicks).time, isSet := s.clock.setMarker } :=
    congrArg (fun b : Bool => ({ time := (warmClock s.clock pins.heldTicks).time, isSet := b } : Stamp)) (warmWith_timeSet (warmRan pins s))
  have blind (occ : pins.occ = true) : (warmAsked pins s).platform.state = .blind := by
    show (if pins.occ then Occupancy.blind else .clear) = _
    rw [occ]
    rfl
  have clear (occ : pins.occ = false) : (warmAsked pins s).platform.state = .clear := by
    show (if pins.occ then Occupancy.blind else .clear) = _
    rw [occ]
    rfl
  have heldOver : (warmAsked pins s).platform.heldOver = heldOverOf s.calls.active := rfl
  unfold heldOverDeparture warmDeparts
  rw [heldOver, stamp]
  cases occ : pins.occ with
  | true => rw [blind occ]; rfl
  | false =>
    rw [clear occ]
    cases heldOverOf s.calls.active <;> rfl

/-- An observation offered behind the stops. -/
theorem enqueue_offered (stops : List Item) (i : Item) (l : Line) (urgent : l.urgent = stops) (discards : l.discards = 0) :
    l.enqueue .urgent i = l.offered stops [i] := by
  rw [Line.enqueue_urgent_eq, urgent, discards]
  rfl

theorem Line.offered_none (stops : List Item) (l : Line) : l.offered stops [] = { l with urgent := stops, discards := 0 } := by
  simp only [Line.offered, ite_self, List.append_nil, List.length_nil]

/-- Where no call departs, every stop offered stays queued. -/
theorem warmStops_stay (h : ∀ n, warmLeaves pins s n = false) (order : List Call) :
    warmStops pins s order = (order.take 16).map stopItem := by
  rw [warmStops, List.filter_eq_self.2 fun c _ => by rw [h]; rfl]

theorem warmRan_stay (h : ∀ n, warmLeaves pins s n = false) :
    ((warmRan pins s).map fun c => if warmLeaves pins s c.service then departedAt (warmNow pins s) c else c) = warmRan pins s :=
  (List.map_congr_left (g := id) fun c _ => if_neg (by rw [h]; exact Bool.false_ne_true)).trans (List.map_id _)

theorem not_warmLeaves_of_newDay (newDay : warmNewDay pins s = true) (n : Nat) : warmLeaves pins s n = false := by
  rw [warmLeaves, newDay]
  rfl

theorem not_warmLeaves_of_none (none : warmDeparts pins s = none) (n : Nat) : warmLeaves pins s n = false := by
  rw [warmLeaves, none]
  exact Bool.and_false _

theorem warmDeparts_some {n : Nat} (h : warmDeparts pins s = some n) :
    pins.occ = false ∧ ∃ c ∈ s.calls.active, c.service = n ∧ c.state = .arrived := by
  unfold warmDeparts at h
  split at h
  · exact nomatch h
  · next occ =>
    obtain ⟨c, hc, hn⟩ := Option.map_eq_some_iff.1 h
    have arrived := List.find?_some (p := fun d : Call => decide (d.state = .arrived)) hc
    exact ⟨Bool.not_eq_true _ ▸ occ, c, List.mem_of_find?_eq_some hc, hn, of_decide_eq_true arrived⟩

/-- The call that stays held over: with OCC asserted, or none where none is found. -/
theorem heldOver_of_none (none : warmDeparts pins s = none) :
    heldOverOf s.calls.active = if pins.occ then heldOverOf s.calls.active else .none := by
  unfold warmDeparts at none
  split at none
  · next occ => exact (if_pos occ).symm
  · next occ => exact none.trans (if_neg occ).symm

/-- The monitor after a departure at the start. -/
theorem heldOver_released (occ : pins.occ = false) : (none : Option Nat) = if pins.occ then heldOverOf s.calls.active else none :=
  (if_neg (Bool.eq_false_iff.1 occ)).symm

/-- The start actions of a warm start. -/
theorem warmActions_warm (banks : BankInv s) (stops : StopInv s) :
    warmActions (warmStart pins s) = warmActed pins s (warmOrder pins s) := by
  rw [warmActions, warmCalls_warm stops]
  refine heldOverDeparture_warm.trans ?_
  cases departs : warmDeparts pins s with
  | none =>
    have stay := not_warmLeaves_of_none departs
    have departure : warmDeparture pins s = [] := by rw [warmDeparture, departs]
    refine State.ext_blocks ?_ rfl rfl rfl rfl ?_ ?_ rfl rfl rfl rfl rfl
    · exact congrArg (warmTable pins s) (warmRan_stay stay).symm
    · rw [warmActed, warmStops_stay stay, departure, Line.offered_none]
      rfl
    · exact congrArg (fun h => { resetPlatform pins.occ s.calls.active with heldOver := h }) (heldOver_of_none departs)
  | some n =>
    obtain ⟨occ, c, hc, hn, arrived⟩ := warmDeparts_some departs
    have platform : ({ (warmAsked pins s).platform with heldOver := none } : Platform) = warmPlatform pins s :=
      congrArg (fun h => { resetPlatform pins.occ s.calls.active with heldOver := h }) (heldOver_released occ)
    dsimp only
    rw [platform]
    cases newDay : warmNewDay pins s with
    | true =>
      have stay := not_warmLeaves_of_newDay newDay
      have departure : warmDeparture pins s =
          [.observation .unmatchedDeparture none (if s.clock.setMarker then some (warmNow pins s) else none)] := by
        rw [warmDeparture, departs, newDay]
        rfl
      rw [reportDeparture_other]
      · refine State.ext_blocks ?_ rfl rfl rfl rfl ?_ rfl rfl rfl rfl rfl rfl
        · exact congrArg (warmTable pins s) (warmRan_stay stay).symm
        · rw [warmActed, warmStops_stay stay, departure]
          exact enqueue_offered _ _ (warmAsked pins s).line rfl rfl
      · intro d hd _
        obtain ⟨e, he, rfl⟩ := List.mem_map.1 hd
        obtain ⟨f, rfl⟩ := mem_warmBank_newDay newDay he
        exact fun h => nomatch ranCall_arrived.1 h
    | false =>
      have leaves (m : Nat) : warmLeaves pins s m = decide (m = n) := by
        rw [warmLeaves, newDay, departs]
        simp [eq_comm]
      have departure : warmDeparture pins s =
          [.observation .departure (some n) (if s.clock.setMarker then some (warmNow pins s) else none)] := by
        rw [warmDeparture, departs, newDay]
        rfl
      have found : ∃ d ∈ warmRan pins s, d.service = n ∧ d.state = .arrived := by
        refine ⟨ranCall s.line.params s.clock.setMarker (warmNow pins s) (wokenCall c), ?_, ?_, ranCall_arrived.2 arrived⟩
        · refine List.mem_map_of_mem ?_
          rw [warmBank, newDay]
          exact List.mem_map_of_mem hc
        · exact (congrArg Scheduled.service (ranCall_toScheduled ..)).trans hn
      rw [reportDeparture_arrived (warmRan_good banks) _ found, leaveSaleable_eq, leaving_of_idle]
      · refine State.ext_blocks ?_ rfl rfl rfl rfl ?_ rfl rfl rfl rfl rfl rfl
        · refine congrArg (warmTable pins s) (List.map_congr_left fun d _ => ?_)
          simp only [leaves, decide_eq_true_eq]
          rfl
        · rw [warmActed, departure]
          refine enqueue_offered _ _ _ ?_ rfl
          simp only [warmStops, leaves]
          exact List.filter_map
      · rfl
      · rfl
      · intro d hd
        obtain ⟨e, he, rfl⟩ := List.mem_map.1 hd
        have quiet : e.ackTimer = none := warmRan_acks (pins := pins) (s := s) he
        split
        · exact quiet
        · exact quiet

end WarmStart

end Sys2Proof.Machine


/-! A warm start: the end of the reset, and the statement. -/

namespace Sys2Proof.Machine

-- One theorem at a time: the whole text is checked in one process.
set_option Elab.async false

/-- The low-water test with no ask-repeat timer running and SERIAL_ASK in the routine queue (R96). -/
theorem lowWater_unasked {s : State} (timer : s.issue.askTimer = none) (asks : s.line.classMap.serialAsk = .routine)
    (room : s.line.routine.length < 32) : lowWater false s = { s with
      issue := { s.issue with askTimer := if remaining s.issue.blocks < 50 then some 4800 else none }
      line := { s.line with
        routine := s.line.routine ++ if remaining s.issue.blocks < 50 then [.serialAsk (remaining s.issue.blocks)] else [] }
      vport := if remaining s.issue.blocks < 50 then s.vport.latch 0x0008#16 else s.vport } := by
  by_cases low : remaining s.issue.blocks < 50
  · rw [lowWater_asks low timer, asks, enqueue_routine_room room]
    simp only [if_pos low]
  · rw [lowWater_none fun h => low h.1]
    simp only [if_neg low, List.append_nil]
    exact State.ext_blocks rfl rfl rfl rfl (congrArg (fun k => { s.issue with askTimer := k }) timer) rfl rfl rfl rfl rfl rfl rfl

/-- Demand is read from the screen's mode, and from none of its other fields. -/
theorem demand_screen {s : State} {m : Screen} (mode : m.mode = s.screen.mode) (wakes : Nat) :
    demand { s with screen := m, wakes := wakes } = demand s := by
  unfold demand
  simp only [mode]
  rfl

/-- The screen after a full reset, by demand (R170, R176, R185). -/
def startScreen (wanted : Bool) : Screen :=
  if wanted then { Screen.reset with supply := .powering, sigpwr := true, readyTimer := some 160 } else Screen.reset

/-- An evaluation of demand in the reset state of the chain, the signage port being that of a reset by the same level of SSEL. -/
theorem evalDemandAt_reset {s : State} (low : Bool) (screen : s.screen = Screen.reset) (sport : s.sport.afterReset low = s.sport) :
    evalDemandAt low s = { s with
      screen := startScreen (demand s)
      wakes := s.wakes + if demand s then 1 else 0 } := by
  have dark : s.screen.supply = .dark := by rw [screen]; rfl
  have off : s.screen.sigpwr = false := by rw [screen]; rfl
  cases wanted : demand s with
  | false =>
    rw [evalDemandAt_rests low dark wanted]
    exact State.ext_blocks rfl rfl rfl rfl rfl rfl rfl screen rfl rfl rfl rfl
  | true =>
    rw [evalDemandAt, dark]
    refine (if_pos wanted).trans ?_
    rw [wake, off]
    refine State.ext_blocks rfl rfl rfl rfl rfl rfl rfl ?_ rfl sport rfl rfl
    show ({ s.screen with sigpwr := true, quiet := false, supply := .powering, readyTimer := some Config.readyTime } : Screen) = _
    rw [screen]
    rfl

section WarmStart

variable {pins : ResetPins} {s : State}

/-- The state of a warm start before demand is evaluated, the board not yet built. -/
def warmLast (pins : ResetPins) (s : State) : State :=
  let left := remaining s.issue.blocks
  { warmActed pins s (warmOrder pins s) with
    issue := { warmIssue s.issue with askTimer := if left < 50 then some 4800 else none }
    line := { (warmActed pins s (warmOrder pins s)).line with
      address := pins.straps.toNat
      link := if pins.straps = 0 then .dark else .hunt
      routine := (if warmRearms pins s then [.status] else []) ++ if left < 50 then [.serialAsk left] else [] }
    vport := if left < 50 then (s.vport.fullReset pins.vselLow).latch 0x0008#16 else s.vport.fullReset pins.vselLow }

theorem warmLast_eq : readStraps pins.straps (lowWater false (warmActed pins s (warmOrder pins s))) = warmLast pins s := by
  rw [lowWater_unasked rfl rfl]
  · exact (readStraps_eq _ _ rfl).trans rfl
  · show (if warmRearms pins s then [Item.status] else []).length < 32
    split <;> decide

/-- A warm start, the whole state after it. -/
theorem fullReset_warm (loss : s.clock.loss = false) (banks : BankInv s) (stops : StopInv s) :
    exec (.fullReset pins) s = .next { firstBoard (warmLast pins s) with
      screen := startScreen (demand (firstBoard (warmLast pins s)))
      wakes := s.wakes + if demand (firstBoard (warmLast pins s)) then 1 else 0 } := by
  refine (if_neg (by rw [loss]; exact Bool.false_ne_true)).trans (congrArg Host.Outcome.next ?_)
  rw [endReset, warmActions_warm banks stops, warmLast_eq]
  exact evalDemandAt_reset _ rfl rfl

theorem vport_warmLast : (warmLast pins s).vport = { PortState.reset with
    held := s.vport.held
    selLow := pins.vselLow
    framing := if pins.vselLow then .discard else .idle
    notices := if remaining s.issue.blocks < 50 ∧ s.vport.held = false then 0x0008#16 else 0 } := by
  show (if remaining s.issue.blocks < 50 then _ else _ : PortState) = _
  by_cases low : remaining s.issue.blocks < 50
  · have one : (0 : BitVec 16) ||| 0x0008#16 = 0x0008#16 := by decide
    cases held : s.vport.held with
    | true =>
      simp only [low, if_true, true_and, Bool.true_eq_false, if_false]
      exact (if_pos held).trans (congrArg (fun h => { PortState.reset with
        held := h, selLow := pins.vselLow, framing := if pins.vselLow then .discard else .idle }) held)
    | false =>
      simp only [low, if_true, true_and]
      refine (if_neg (Bool.eq_false_iff.1 held)).trans ?_
      show ({ s.vport.fullReset pins.vselLow with notices := (0 : BitVec 16) ||| 0x0008#16 } : PortState) = _
      rw [one]
      exact congrArg (fun h => { PortState.reset with
        held := h, selLow := pins.vselLow, framing := if pins.vselLow then .discard else .idle, notices := 0x0008#16 }) held
  · simp only [low, if_false, false_and]
    rfl

end WarmStart

/-- Settles O5: the start actions one after another (`warmActions_warm`), the order of the offers that of the waiting calls, and
the end of the reset (`fullReset_warm`). -/
theorem warmStartKeeps : Obligations.WarmStartKeeps := by
  unfold Obligations.WarmStartKeeps
  intro pins s loss banks stops total isSet now wraps newDay isComplete left held departs leaves bank ran
  have rans : ran = warmRan pins s := rfl
  have demands : demand { firstBoard (warmLast pins s) with
      screen := startScreen (demand (firstBoard (warmLast pins s)))
      wakes := s.wakes + if demand (firstBoard (warmLast pins s)) then 1 else 0 } = demand (firstBoard (warmLast pins s)) := by
    refine demand_screen ?_ _
    rw [startScreen]
    split <;> rfl
  refine ⟨warmOrder pins s, _, fullReset_warm loss banks stops, ?order, warmOrder_pairwise banks, ?state⟩
  case order => exact warmOrder_perm
  case state =>
    intro offered time departure
    rw [demands]
    exact State.ext_blocks rfl rfl rfl rfl rfl rfl rfl rfl vport_warmLast rfl rfl rfl

end Sys2Proof.Machine
